-- ==== Sys2Proof/Word.lean ====
section
/-! DEFINITION. The two word types of the machine (00_scope.md R9, R10): a byte (u8) and a word (u16).
Arithmetic on them is BitVec's own, which wraps modulo 2^8 and 2^16 as R10 asks. -/

namespace Sys2Proof

/-- u8 of R9. -/
abbrev Byte := BitVec 8

/-- u16 of R9. -/
abbrev Word := BitVec 16

end Sys2Proof
end

