-- ==== Sys2Proof/Machine/Bits.lean ====
section
/-! DEFINITION. The bit-field, byte-order and sign-extension helpers of 00_scope.md R9, R10 and the field split of
30_encoding.md R141. -/

namespace Sys2Proof.Machine

/-- `hi(w) = w[15:8]` (R10). -/
def hi (w : Word) : Byte := w.extractLsb' 8 8

/-- `lo(w) = w[7:0]` (R10). -/
def lo (w : Word) : Byte := w.extractLsb' 0 8

/-- The word {h, l} of R10: `h` is the high byte. -/
def word (h l : Byte) : Word := h ++ l

/-- `sext_16(v)` of R10: v if v[7] = 0, and v + 0xFF00 otherwise. -/
def sext16 (v : Byte) : Word :=
  if v.getLsbD 7 then v.setWidth 16 + 0xFF00#16 else v.setWidth 16

/-- The zero-page address 0xFF00 + n (30_encoding.md R147). -/
def zeroPage (n : Byte) : Word := 0xFF00#16 + n.setWidth 16

/-- A carry as bit 0 of a byte. -/
def bit0 (c : Bool) : Byte := if c then 0x01#8 else 0x00#8

/-- A carry as bit 7 of a byte. -/
def bit7 (c : Bool) : Byte := if c then 0x80#8 else 0x00#8

/-- Field x = b[7:6] of an opcode byte (R141). -/
def fieldX (b : Byte) : Nat := b.toNat / 64

/-- Field y = b[5:3] of an opcode byte (R141). -/
def fieldY (b : Byte) : Nat := b.toNat / 8 % 8

/-- Field z = b[2:0] of an opcode byte (R141). -/
def fieldZ (b : Byte) : Nat := b.toNat % 8

/-- The eleven primary bytes that no instruction has (30_encoding.md R150). -/
def undefinedBytes : List Byte :=
  [0xD3#8, 0xDB#8, 0xDD#8, 0xE3#8, 0xE4#8, 0xEB#8, 0xEC#8, 0xED#8, 0xF4#8, 0xFC#8, 0xFD#8]

/-- Is the byte undefined as an opcode byte (R150)? -/
def isUndefinedByte (b : Byte) : Bool := undefinedBytes.contains b

end Sys2Proof.Machine
end

