-- ==== Sys2Proof/WellFormed.lean ====
section
/-! DEFINITION. Which instructions are words of the opcode map as decoded: 30_encoding.md R150, R151. No defined encoding has
a reserved field, and every operand constructor carries exactly the bits of its field, so only two constructors can be
ill-formed. -/

namespace Sys2Proof

/-- `undefined b` stands for one of the eleven undefined bytes; `prefix_cb` is no instruction by itself (45_system.md R395),
its two bytes are an instruction of the CB map (log 7); every other instruction is well formed (R150). -/
def Instr.wf : Instr → Bool
  | .undefined b => Machine.isUndefinedByte b
  | .prefix_cb _ => false
  | _ => true

end Sys2Proof
end

