-- ==== Sys2Proof/Decode.lean ====
section
/-! DEFINITION. The decoder, row by row of the opcode maps of 30_encoding.md R148 and R149, total on any bytes; the encoder,
from the same maps; the host's reading of a table word; and where each decoding is shown: Tests/Slice0.lean holds one word per
constructor, written out from the encoding column of the maps. -/

namespace Sys2Proof

open Machine

/-- Why a list of bytes holds no instruction. An undefined byte is no such reason: it decodes to `undefined`, whose meaning
raises DecodeError (45_system.md R396). -/
inductive DecodeReject where
  /-- The list is empty. -/
  | noBytes
  /-- The list ends inside the instruction: how many bytes it has and how many there are (R140). -/
  | truncated (need have_ : Nat)
  deriving DecidableEq, Repr

/-- CB bytes 0x00 to 0x0F (R149). -/
def decodeCbRow0 : Nat → Instr
  | 0 => .rlc_b
  | 1 => .rlc_c
  | 2 => .rlc_d
  | 3 => .rlc_e
  | 4 => .rlc_h
  | 5 => .rlc_l
  | 6 => .rlc_indHl
  | 7 => .rlc_a
  | 8 => .rrc_b
  | 9 => .rrc_c
  | 10 => .rrc_d
  | 11 => .rrc_e
  | 12 => .rrc_h
  | 13 => .rrc_l
  | 14 => .rrc_indHl
  | _ => .rrc_a

/-- CB bytes 0x10 to 0x1F (R149). -/
def decodeCbRow1 : Nat → Instr
  | 0 => .rl_b
  | 1 => .rl_c
  | 2 => .rl_d
  | 3 => .rl_e
  | 4 => .rl_h
  | 5 => .rl_l
  | 6 => .rl_indHl
  | 7 => .rl_a
  | 8 => .rr_b
  | 9 => .rr_c
  | 10 => .rr_d
  | 11 => .rr_e
  | 12 => .rr_h
  | 13 => .rr_l
  | 14 => .rr_indHl
  | _ => .rr_a

/-- CB bytes 0x20 to 0x2F (R149). -/
def decodeCbRow2 : Nat → Instr
  | 0 => .sla_b
  | 1 => .sla_c
  | 2 => .sla_d
  | 3 => .sla_e
  | 4 => .sla_h
  | 5 => .sla_l
  | 6 => .sla_indHl
  | 7 => .sla_a
  | 8 => .sra_b
  | 9 => .sra_c
  | 10 => .sra_d
  | 11 => .sra_e
  | 12 => .sra_h
  | 13 => .sra_l
  | 14 => .sra_indHl
  | _ => .sra_a

/-- CB bytes 0x30 to 0x3F (R149). -/
def decodeCbRow3 : Nat → Instr
  | 0 => .swap_b
  | 1 => .swap_c
  | 2 => .swap_d
  | 3 => .swap_e
  | 4 => .swap_h
  | 5 => .swap_l
  | 6 => .swap_indHl
  | 7 => .swap_a
  | 8 => .srl_b
  | 9 => .srl_c
  | 10 => .srl_d
  | 11 => .srl_e
  | 12 => .srl_h
  | 13 => .srl_l
  | 14 => .srl_indHl
  | _ => .srl_a

/-- CB bytes 0x40 to 0x4F (R149). -/
def decodeCbRow4 : Nat → Instr
  | 0 => .bit_0_b
  | 1 => .bit_0_c
  | 2 => .bit_0_d
  | 3 => .bit_0_e
  | 4 => .bit_0_h
  | 5 => .bit_0_l
  | 6 => .bit_0_indHl
  | 7 => .bit_0_a
  | 8 => .bit_1_b
  | 9 => .bit_1_c
  | 10 => .bit_1_d
  | 11 => .bit_1_e
  | 12 => .bit_1_h
  | 13 => .bit_1_l
  | 14 => .bit_1_indHl
  | _ => .bit_1_a

/-- CB bytes 0x50 to 0x5F (R149). -/
def decodeCbRow5 : Nat → Instr
  | 0 => .bit_2_b
  | 1 => .bit_2_c
  | 2 => .bit_2_d
  | 3 => .bit_2_e
  | 4 => .bit_2_h
  | 5 => .bit_2_l
  | 6 => .bit_2_indHl
  | 7 => .bit_2_a
  | 8 => .bit_3_b
  | 9 => .bit_3_c
  | 10 => .bit_3_d
  | 11 => .bit_3_e
  | 12 => .bit_3_h
  | 13 => .bit_3_l
  | 14 => .bit_3_indHl
  | _ => .bit_3_a

/-- CB bytes 0x60 to 0x6F (R149). -/
def decodeCbRow6 : Nat → Instr
  | 0 => .bit_4_b
  | 1 => .bit_4_c
  | 2 => .bit_4_d
  | 3 => .bit_4_e
  | 4 => .bit_4_h
  | 5 => .bit_4_l
  | 6 => .bit_4_indHl
  | 7 => .bit_4_a
  | 8 => .bit_5_b
  | 9 => .bit_5_c
  | 10 => .bit_5_d
  | 11 => .bit_5_e
  | 12 => .bit_5_h
  | 13 => .bit_5_l
  | 14 => .bit_5_indHl
  | _ => .bit_5_a

/-- CB bytes 0x70 to 0x7F (R149). -/
def decodeCbRow7 : Nat → Instr
  | 0 => .bit_6_b
  | 1 => .bit_6_c
  | 2 => .bit_6_d
  | 3 => .bit_6_e
  | 4 => .bit_6_h
  | 5 => .bit_6_l
  | 6 => .bit_6_indHl
  | 7 => .bit_6_a
  | 8 => .bit_7_b
  | 9 => .bit_7_c
  | 10 => .bit_7_d
  | 11 => .bit_7_e
  | 12 => .bit_7_h
  | 13 => .bit_7_l
  | 14 => .bit_7_indHl
  | _ => .bit_7_a

/-- CB bytes 0x80 to 0x8F (R149). -/
def decodeCbRow8 : Nat → Instr
  | 0 => .res_0_b
  | 1 => .res_0_c
  | 2 => .res_0_d
  | 3 => .res_0_e
  | 4 => .res_0_h
  | 5 => .res_0_l
  | 6 => .res_0_indHl
  | 7 => .res_0_a
  | 8 => .res_1_b
  | 9 => .res_1_c
  | 10 => .res_1_d
  | 11 => .res_1_e
  | 12 => .res_1_h
  | 13 => .res_1_l
  | 14 => .res_1_indHl
  | _ => .res_1_a

/-- CB bytes 0x90 to 0x9F (R149). -/
def decodeCbRow9 : Nat → Instr
  | 0 => .res_2_b
  | 1 => .res_2_c
  | 2 => .res_2_d
  | 3 => .res_2_e
  | 4 => .res_2_h
  | 5 => .res_2_l
  | 6 => .res_2_indHl
  | 7 => .res_2_a
  | 8 => .res_3_b
  | 9 => .res_3_c
  | 10 => .res_3_d
  | 11 => .res_3_e
  | 12 => .res_3_h
  | 13 => .res_3_l
  | 14 => .res_3_indHl
  | _ => .res_3_a

/-- CB bytes 0xA0 to 0xAF (R149). -/
def decodeCbRowA : Nat → Instr
  | 0 => .res_4_b
  | 1 => .res_4_c
  | 2 => .res_4_d
  | 3 => .res_4_e
  | 4 => .res_4_h
  | 5 => .res_4_l
  | 6 => .res_4_indHl
  | 7 => .res_4_a
  | 8 => .res_5_b
  | 9 => .res_5_c
  | 10 => .res_5_d
  | 11 => .res_5_e
  | 12 => .res_5_h
  | 13 => .res_5_l
  | 14 => .res_5_indHl
  | _ => .res_5_a

/-- CB bytes 0xB0 to 0xBF (R149). -/
def decodeCbRowB : Nat → Instr
  | 0 => .res_6_b
  | 1 => .res_6_c
  | 2 => .res_6_d
  | 3 => .res_6_e
  | 4 => .res_6_h
  | 5 => .res_6_l
  | 6 => .res_6_indHl
  | 7 => .res_6_a
  | 8 => .res_7_b
  | 9 => .res_7_c
  | 10 => .res_7_d
  | 11 => .res_7_e
  | 12 => .res_7_h
  | 13 => .res_7_l
  | 14 => .res_7_indHl
  | _ => .res_7_a

/-- CB bytes 0xC0 to 0xCF (R149). -/
def decodeCbRowC : Nat → Instr
  | 0 => .set_0_b
  | 1 => .set_0_c
  | 2 => .set_0_d
  | 3 => .set_0_e
  | 4 => .set_0_h
  | 5 => .set_0_l
  | 6 => .set_0_indHl
  | 7 => .set_0_a
  | 8 => .set_1_b
  | 9 => .set_1_c
  | 10 => .set_1_d
  | 11 => .set_1_e
  | 12 => .set_1_h
  | 13 => .set_1_l
  | 14 => .set_1_indHl
  | _ => .set_1_a

/-- CB bytes 0xD0 to 0xDF (R149). -/
def decodeCbRowD : Nat → Instr
  | 0 => .set_2_b
  | 1 => .set_2_c
  | 2 => .set_2_d
  | 3 => .set_2_e
  | 4 => .set_2_h
  | 5 => .set_2_l
  | 6 => .set_2_indHl
  | 7 => .set_2_a
  | 8 => .set_3_b
  | 9 => .set_3_c
  | 10 => .set_3_d
  | 11 => .set_3_e
  | 12 => .set_3_h
  | 13 => .set_3_l
  | 14 => .set_3_indHl
  | _ => .set_3_a

/-- CB bytes 0xE0 to 0xEF (R149). -/
def decodeCbRowE : Nat → Instr
  | 0 => .set_4_b
  | 1 => .set_4_c
  | 2 => .set_4_d
  | 3 => .set_4_e
  | 4 => .set_4_h
  | 5 => .set_4_l
  | 6 => .set_4_indHl
  | 7 => .set_4_a
  | 8 => .set_5_b
  | 9 => .set_5_c
  | 10 => .set_5_d
  | 11 => .set_5_e
  | 12 => .set_5_h
  | 13 => .set_5_l
  | 14 => .set_5_indHl
  | _ => .set_5_a

/-- CB bytes 0xF0 to 0xFF (R149). -/
def decodeCbRowF : Nat → Instr
  | 0 => .set_6_b
  | 1 => .set_6_c
  | 2 => .set_6_d
  | 3 => .set_6_e
  | 4 => .set_6_h
  | 5 => .set_6_l
  | 6 => .set_6_indHl
  | 7 => .set_6_a
  | 8 => .set_7_b
  | 9 => .set_7_c
  | 10 => .set_7_d
  | 11 => .set_7_e
  | 12 => .set_7_h
  | 13 => .set_7_l
  | 14 => .set_7_indHl
  | _ => .set_7_a

/-- The instruction of a CB byte (R149); all 256 are defined. -/
def decodeCb (b : Byte) : Instr :=
  let low := b.toNat % 16
  match b.toNat / 16 with
  | 0 => decodeCbRow0 low
  | 1 => decodeCbRow1 low
  | 2 => decodeCbRow2 low
  | 3 => decodeCbRow3 low
  | 4 => decodeCbRow4 low
  | 5 => decodeCbRow5 low
  | 6 => decodeCbRow6 low
  | 7 => decodeCbRow7 low
  | 8 => decodeCbRow8 low
  | 9 => decodeCbRow9 low
  | 10 => decodeCbRowA low
  | 11 => decodeCbRowB low
  | 12 => decodeCbRowC low
  | 13 => decodeCbRowD low
  | 14 => decodeCbRowE low
  | _ => decodeCbRowF low

/-- Opcode bytes 0x00 to 0x0F (R148); `n` is the second byte, `nn` the little-endian word of the second and third. -/
def decodeRow0 (n : Byte) (nn : Word) : Nat → Instr
  | 0 => .nop
  | 1 => .ld_bc_nn nn
  | 2 => .ld_indBc_a
  | 3 => .inc_bc
  | 4 => .inc_b
  | 5 => .dec_b
  | 6 => .ld_b_n n
  | 7 => .rlca
  | 8 => .ld_indNn_sp nn
  | 9 => .add_hl_bc
  | 10 => .ld_a_indBc
  | 11 => .dec_bc
  | 12 => .inc_c
  | 13 => .dec_c
  | 14 => .ld_c_n n
  | _ => .rrca

/-- Opcode bytes 0x10 to 0x1F (R148); `n` is the second byte, `nn` the little-endian word of the second and third. -/
def decodeRow1 (n : Byte) (nn : Word) : Nat → Instr
  | 0 => .stop n
  | 1 => .ld_de_nn nn
  | 2 => .ld_indDe_a
  | 3 => .inc_de
  | 4 => .inc_d
  | 5 => .dec_d
  | 6 => .ld_d_n n
  | 7 => .rla
  | 8 => .jr_e n
  | 9 => .add_hl_de
  | 10 => .ld_a_indDe
  | 11 => .dec_de
  | 12 => .inc_e
  | 13 => .dec_e
  | 14 => .ld_e_n n
  | _ => .rra

/-- Opcode bytes 0x20 to 0x2F (R148); `n` is the second byte, `nn` the little-endian word of the second and third. -/
def decodeRow2 (n : Byte) (nn : Word) : Nat → Instr
  | 0 => .jr_nz_e n
  | 1 => .ld_hl_nn nn
  | 2 => .ld_indHlInc_a
  | 3 => .inc_hl
  | 4 => .inc_h
  | 5 => .dec_h
  | 6 => .ld_h_n n
  | 7 => .daa
  | 8 => .jr_z_e n
  | 9 => .add_hl_hl
  | 10 => .ld_a_indHlInc
  | 11 => .dec_hl
  | 12 => .inc_l
  | 13 => .dec_l
  | 14 => .ld_l_n n
  | _ => .cpl

/-- Opcode bytes 0x30 to 0x3F (R148); `n` is the second byte, `nn` the little-endian word of the second and third. -/
def decodeRow3 (n : Byte) (nn : Word) : Nat → Instr
  | 0 => .jr_nc_e n
  | 1 => .ld_sp_nn nn
  | 2 => .ld_indHlDec_a
  | 3 => .inc_sp
  | 4 => .inc_indHl
  | 5 => .dec_indHl
  | 6 => .ld_indHl_n n
  | 7 => .scf
  | 8 => .jr_c_e n
  | 9 => .add_hl_sp
  | 10 => .ld_a_indHlDec
  | 11 => .dec_sp
  | 12 => .inc_a
  | 13 => .dec_a
  | 14 => .ld_a_n n
  | _ => .ccf

/-- Opcode bytes 0x40 to 0x4F (R148); `n` is the second byte, `nn` the little-endian word of the second and third. -/
def decodeRow4 (_n : Byte) (_nn : Word) : Nat → Instr
  | 0 => .ld_b_b
  | 1 => .ld_b_c
  | 2 => .ld_b_d
  | 3 => .ld_b_e
  | 4 => .ld_b_h
  | 5 => .ld_b_l
  | 6 => .ld_b_indHl
  | 7 => .ld_b_a
  | 8 => .ld_c_b
  | 9 => .ld_c_c
  | 10 => .ld_c_d
  | 11 => .ld_c_e
  | 12 => .ld_c_h
  | 13 => .ld_c_l
  | 14 => .ld_c_indHl
  | _ => .ld_c_a

/-- Opcode bytes 0x50 to 0x5F (R148); `n` is the second byte, `nn` the little-endian word of the second and third. -/
def decodeRow5 (_n : Byte) (_nn : Word) : Nat → Instr
  | 0 => .ld_d_b
  | 1 => .ld_d_c
  | 2 => .ld_d_d
  | 3 => .ld_d_e
  | 4 => .ld_d_h
  | 5 => .ld_d_l
  | 6 => .ld_d_indHl
  | 7 => .ld_d_a
  | 8 => .ld_e_b
  | 9 => .ld_e_c
  | 10 => .ld_e_d
  | 11 => .ld_e_e
  | 12 => .ld_e_h
  | 13 => .ld_e_l
  | 14 => .ld_e_indHl
  | _ => .ld_e_a

/-- Opcode bytes 0x60 to 0x6F (R148); `n` is the second byte, `nn` the little-endian word of the second and third. -/
def decodeRow6 (_n : Byte) (_nn : Word) : Nat → Instr
  | 0 => .ld_h_b
  | 1 => .ld_h_c
  | 2 => .ld_h_d
  | 3 => .ld_h_e
  | 4 => .ld_h_h
  | 5 => .ld_h_l
  | 6 => .ld_h_indHl
  | 7 => .ld_h_a
  | 8 => .ld_l_b
  | 9 => .ld_l_c
  | 10 => .ld_l_d
  | 11 => .ld_l_e
  | 12 => .ld_l_h
  | 13 => .ld_l_l
  | 14 => .ld_l_indHl
  | _ => .ld_l_a

/-- Opcode bytes 0x70 to 0x7F (R148); `n` is the second byte, `nn` the little-endian word of the second and third. -/
def decodeRow7 (_n : Byte) (_nn : Word) : Nat → Instr
  | 0 => .ld_indHl_b
  | 1 => .ld_indHl_c
  | 2 => .ld_indHl_d
  | 3 => .ld_indHl_e
  | 4 => .ld_indHl_h
  | 5 => .ld_indHl_l
  | 6 => .halt
  | 7 => .ld_indHl_a
  | 8 => .ld_a_b
  | 9 => .ld_a_c
  | 10 => .ld_a_d
  | 11 => .ld_a_e
  | 12 => .ld_a_h
  | 13 => .ld_a_l
  | 14 => .ld_a_indHl
  | _ => .ld_a_a

/-- Opcode bytes 0x80 to 0x8F (R148); `n` is the second byte, `nn` the little-endian word of the second and third. -/
def decodeRow8 (_n : Byte) (_nn : Word) : Nat → Instr
  | 0 => .add_a_b
  | 1 => .add_a_c
  | 2 => .add_a_d
  | 3 => .add_a_e
  | 4 => .add_a_h
  | 5 => .add_a_l
  | 6 => .add_a_indHl
  | 7 => .add_a_a
  | 8 => .adc_a_b
  | 9 => .adc_a_c
  | 10 => .adc_a_d
  | 11 => .adc_a_e
  | 12 => .adc_a_h
  | 13 => .adc_a_l
  | 14 => .adc_a_indHl
  | _ => .adc_a_a

/-- Opcode bytes 0x90 to 0x9F (R148); `n` is the second byte, `nn` the little-endian word of the second and third. -/
def decodeRow9 (_n : Byte) (_nn : Word) : Nat → Instr
  | 0 => .sub_b
  | 1 => .sub_c
  | 2 => .sub_d
  | 3 => .sub_e
  | 4 => .sub_h
  | 5 => .sub_l
  | 6 => .sub_indHl
  | 7 => .sub_a
  | 8 => .sbc_a_b
  | 9 => .sbc_a_c
  | 10 => .sbc_a_d
  | 11 => .sbc_a_e
  | 12 => .sbc_a_h
  | 13 => .sbc_a_l
  | 14 => .sbc_a_indHl
  | _ => .sbc_a_a

/-- Opcode bytes 0xA0 to 0xAF (R148); `n` is the second byte, `nn` the little-endian word of the second and third. -/
def decodeRowA (_n : Byte) (_nn : Word) : Nat → Instr
  | 0 => .and_b
  | 1 => .and_c
  | 2 => .and_d
  | 3 => .and_e
  | 4 => .and_h
  | 5 => .and_l
  | 6 => .and_indHl
  | 7 => .and_a
  | 8 => .xor_b
  | 9 => .xor_c
  | 10 => .xor_d
  | 11 => .xor_e
  | 12 => .xor_h
  | 13 => .xor_l
  | 14 => .xor_indHl
  | _ => .xor_a

/-- Opcode bytes 0xB0 to 0xBF (R148); `n` is the second byte, `nn` the little-endian word of the second and third. -/
def decodeRowB (_n : Byte) (_nn : Word) : Nat → Instr
  | 0 => .or_b
  | 1 => .or_c
  | 2 => .or_d
  | 3 => .or_e
  | 4 => .or_h
  | 5 => .or_l
  | 6 => .or_indHl
  | 7 => .or_a
  | 8 => .cp_b
  | 9 => .cp_c
  | 10 => .cp_d
  | 11 => .cp_e
  | 12 => .cp_h
  | 13 => .cp_l
  | 14 => .cp_indHl
  | _ => .cp_a

/-- Opcode bytes 0xC0 to 0xCF (R148); `n` is the second byte, `nn` the little-endian word of the second and third. -/
def decodeRowC (n : Byte) (nn : Word) : Nat → Instr
  | 0 => .ret_nz
  | 1 => .pop_bc
  | 2 => .jp_nz_nn nn
  | 3 => .jp_nn nn
  | 4 => .call_nz_nn nn
  | 5 => .push_bc
  | 6 => .add_a_n n
  | 7 => .rst_00
  | 8 => .ret_z
  | 9 => .ret
  | 10 => .jp_z_nn nn
  | 11 => decodeCb n
  | 12 => .call_z_nn nn
  | 13 => .call_nn nn
  | 14 => .adc_a_n n
  | _ => .rst_08

/-- Opcode bytes 0xD0 to 0xDF (R148); `n` is the second byte, `nn` the little-endian word of the second and third. -/
def decodeRowD (n : Byte) (nn : Word) : Nat → Instr
  | 0 => .ret_nc
  | 1 => .pop_de
  | 2 => .jp_nc_nn nn
  | 3 => .undefined 0xD3#8
  | 4 => .call_nc_nn nn
  | 5 => .push_de
  | 6 => .sub_n n
  | 7 => .rst_10
  | 8 => .ret_c
  | 9 => .reti
  | 10 => .jp_c_nn nn
  | 11 => .undefined 0xDB#8
  | 12 => .call_c_nn nn
  | 13 => .undefined 0xDD#8
  | 14 => .sbc_a_n n
  | _ => .rst_18

/-- Opcode bytes 0xE0 to 0xEF (R148); `n` is the second byte, `nn` the little-endian word of the second and third. -/
def decodeRowE (n : Byte) (nn : Word) : Nat → Instr
  | 0 => .ldh_indN_a n
  | 1 => .pop_hl
  | 2 => .ld_indC_a
  | 3 => .undefined 0xE3#8
  | 4 => .undefined 0xE4#8
  | 5 => .push_hl
  | 6 => .and_n n
  | 7 => .rst_20
  | 8 => .add_sp_e n
  | 9 => .jp_hl
  | 10 => .ld_indNn_a nn
  | 11 => .undefined 0xEB#8
  | 12 => .undefined 0xEC#8
  | 13 => .undefined 0xED#8
  | 14 => .xor_n n
  | _ => .rst_28

/-- Opcode bytes 0xF0 to 0xFF (R148); `n` is the second byte, `nn` the little-endian word of the second and third. -/
def decodeRowF (n : Byte) (nn : Word) : Nat → Instr
  | 0 => .ldh_a_indN n
  | 1 => .pop_af
  | 2 => .ld_a_indC
  | 3 => .di
  | 4 => .undefined 0xF4#8
  | 5 => .push_af
  | 6 => .or_n n
  | 7 => .rst_30
  | 8 => .ld_hl_spE n
  | 9 => .ld_sp_hl
  | 10 => .ld_a_indNn nn
  | 11 => .ei
  | 12 => .undefined 0xFC#8
  | 13 => .undefined 0xFD#8
  | 14 => .cp_n n
  | _ => .rst_38

/-- The instruction whose first bytes are b0, b1, b2; bytes past its length are not looked at (R151, R146). -/
def decodeBytes (b0 b1 b2 : Byte) : Instr :=
  let low := b0.toNat % 16
  let nn := word b2 b1
  match b0.toNat / 16 with
  | 0 => decodeRow0 b1 nn low
  | 1 => decodeRow1 b1 nn low
  | 2 => decodeRow2 b1 nn low
  | 3 => decodeRow3 b1 nn low
  | 4 => decodeRow4 b1 nn low
  | 5 => decodeRow5 b1 nn low
  | 6 => decodeRow6 b1 nn low
  | 7 => decodeRow7 b1 nn low
  | 8 => decodeRow8 b1 nn low
  | 9 => decodeRow9 b1 nn low
  | 10 => decodeRowA b1 nn low
  | 11 => decodeRowB b1 nn low
  | 12 => decodeRowC b1 nn low
  | 13 => decodeRowD b1 nn low
  | 14 => decodeRowE b1 nn low
  | _ => decodeRowF b1 nn low

/-- The opcode bytes of the 3-byte instructions (R148). -/
def opcodesOfLength3 : List Nat :=
  [0x01, 0x08, 0x11, 0x21, 0x31, 0xC2, 0xC3, 0xC4, 0xCA,
   0xCC, 0xCD, 0xD2, 0xD4, 0xDA, 0xDC, 0xEA, 0xFA]

/-- The opcode bytes of the 2-byte instructions, the prefix among them (R148). -/
def opcodesOfLength2 : List Nat :=
  [0x06, 0x0E, 0x10, 0x16, 0x18, 0x1E, 0x20, 0x26, 0x28,
   0x2E, 0x30, 0x36, 0x38, 0x3E, 0xC6, 0xCB, 0xCE, 0xD6,
   0xDE, 0xE0, 0xE6, 0xE8, 0xEE, 0xF0, 0xF6, 0xF8, 0xFE]

/-- The length of an instruction, from its first byte alone (R140, R151). An undefined byte counts as the one byte it is. -/
def lengthOfOpcode (b0 : Byte) : Nat :=
  if opcodesOfLength3.contains b0.toNat then 3 else if opcodesOfLength2.contains b0.toNat then 2 else 1

/-- The first instruction of a list of bytes, with the bytes after it (R151). -/
def decode : List Byte → Except DecodeReject (Instr × List Byte)
  | [] => .error .noBytes
  | b0 :: rest =>
    let need := lengthOfOpcode b0
    if rest.length + 1 < need then .error (.truncated need (rest.length + 1))
    else .ok (decodeBytes b0 (rest.getD 0 0x00#8) (rest.getD 1 0x00#8), rest.drop (need - 1))

/-- The bytes of an instruction, from the encoding columns of R148 and R149. -/
def encode : Instr → List Byte
  | .ld_bc_nn nn => [0x01#8, lo nn, hi nn]
  | .ld_b_n n => [0x06#8, n]
  | .ld_indNn_sp nn => [0x08#8, lo nn, hi nn]
  | .ld_c_n n => [0x0E#8, n]
  | .stop x => [0x10#8, x]
  | .ld_de_nn nn => [0x11#8, lo nn, hi nn]
  | .ld_d_n n => [0x16#8, n]
  | .jr_e e => [0x18#8, e]
  | .ld_e_n n => [0x1E#8, n]
  | .jr_nz_e e => [0x20#8, e]
  | .ld_hl_nn nn => [0x21#8, lo nn, hi nn]
  | .ld_h_n n => [0x26#8, n]
  | .jr_z_e e => [0x28#8, e]
  | .ld_l_n n => [0x2E#8, n]
  | .jr_nc_e e => [0x30#8, e]
  | .ld_sp_nn nn => [0x31#8, lo nn, hi nn]
  | .ld_indHl_n n => [0x36#8, n]
  | .jr_c_e e => [0x38#8, e]
  | .ld_a_n n => [0x3E#8, n]
  | .jp_nz_nn nn => [0xC2#8, lo nn, hi nn]
  | .jp_nn nn => [0xC3#8, lo nn, hi nn]
  | .call_nz_nn nn => [0xC4#8, lo nn, hi nn]
  | .add_a_n n => [0xC6#8, n]
  | .jp_z_nn nn => [0xCA#8, lo nn, hi nn]
  | .prefix_cb b2 => [0xCB#8, b2]
  | .call_z_nn nn => [0xCC#8, lo nn, hi nn]
  | .call_nn nn => [0xCD#8, lo nn, hi nn]
  | .adc_a_n n => [0xCE#8, n]
  | .jp_nc_nn nn => [0xD2#8, lo nn, hi nn]
  | .undefined b => [b]
  | .call_nc_nn nn => [0xD4#8, lo nn, hi nn]
  | .sub_n n => [0xD6#8, n]
  | .jp_c_nn nn => [0xDA#8, lo nn, hi nn]
  | .call_c_nn nn => [0xDC#8, lo nn, hi nn]
  | .sbc_a_n n => [0xDE#8, n]
  | .ldh_indN_a n => [0xE0#8, n]
  | .and_n n => [0xE6#8, n]
  | .add_sp_e e => [0xE8#8, e]
  | .ld_indNn_a nn => [0xEA#8, lo nn, hi nn]
  | .xor_n n => [0xEE#8, n]
  | .ldh_a_indN n => [0xF0#8, n]
  | .or_n n => [0xF6#8, n]
  | .ld_hl_spE e => [0xF8#8, e]
  | .ld_a_indNn nn => [0xFA#8, lo nn, hi nn]
  | .cp_n n => [0xFE#8, n]
  | .nop => [0x00#8]
  | .ld_indBc_a => [0x02#8]
  | .inc_bc => [0x03#8]
  | .inc_b => [0x04#8]
  | .dec_b => [0x05#8]
  | .rlca => [0x07#8]
  | .add_hl_bc => [0x09#8]
  | .ld_a_indBc => [0x0A#8]
  | .dec_bc => [0x0B#8]
  | .inc_c => [0x0C#8]
  | .dec_c => [0x0D#8]
  | .rrca => [0x0F#8]
  | .ld_indDe_a => [0x12#8]
  | .inc_de => [0x13#8]
  | .inc_d => [0x14#8]
  | .dec_d => [0x15#8]
  | .rla => [0x17#8]
  | .add_hl_de => [0x19#8]
  | .ld_a_indDe => [0x1A#8]
  | .dec_de => [0x1B#8]
  | .inc_e => [0x1C#8]
  | .dec_e => [0x1D#8]
  | .rra => [0x1F#8]
  | .ld_indHlInc_a => [0x22#8]
  | .inc_hl => [0x23#8]
  | .inc_h => [0x24#8]
  | .dec_h => [0x25#8]
  | .daa => [0x27#8]
  | .add_hl_hl => [0x29#8]
  | .ld_a_indHlInc => [0x2A#8]
  | .dec_hl => [0x2B#8]
  | .inc_l => [0x2C#8]
  | .dec_l => [0x2D#8]
  | .cpl => [0x2F#8]
  | .ld_indHlDec_a => [0x32#8]
  | .inc_sp => [0x33#8]
  | .inc_indHl => [0x34#8]
  | .dec_indHl => [0x35#8]
  | .scf => [0x37#8]
  | .add_hl_sp => [0x39#8]
  | .ld_a_indHlDec => [0x3A#8]
  | .dec_sp => [0x3B#8]
  | .inc_a => [0x3C#8]
  | .dec_a => [0x3D#8]
  | .ccf => [0x3F#8]
  | .ld_b_b => [0x40#8]
  | .ld_b_c => [0x41#8]
  | .ld_b_d => [0x42#8]
  | .ld_b_e => [0x43#8]
  | .ld_b_h => [0x44#8]
  | .ld_b_l => [0x45#8]
  | .ld_b_indHl => [0x46#8]
  | .ld_b_a => [0x47#8]
  | .ld_c_b => [0x48#8]
  | .ld_c_c => [0x49#8]
  | .ld_c_d => [0x4A#8]
  | .ld_c_e => [0x4B#8]
  | .ld_c_h => [0x4C#8]
  | .ld_c_l => [0x4D#8]
  | .ld_c_indHl => [0x4E#8]
  | .ld_c_a => [0x4F#8]
  | .ld_d_b => [0x50#8]
  | .ld_d_c => [0x51#8]
  | .ld_d_d => [0x52#8]
  | .ld_d_e => [0x53#8]
  | .ld_d_h => [0x54#8]
  | .ld_d_l => [0x55#8]
  | .ld_d_indHl => [0x56#8]
  | .ld_d_a => [0x57#8]
  | .ld_e_b => [0x58#8]
  | .ld_e_c => [0x59#8]
  | .ld_e_d => [0x5A#8]
  | .ld_e_e => [0x5B#8]
  | .ld_e_h => [0x5C#8]
  | .ld_e_l => [0x5D#8]
  | .ld_e_indHl => [0x5E#8]
  | .ld_e_a => [0x5F#8]
  | .ld_h_b => [0x60#8]
  | .ld_h_c => [0x61#8]
  | .ld_h_d => [0x62#8]
  | .ld_h_e => [0x63#8]
  | .ld_h_h => [0x64#8]
  | .ld_h_l => [0x65#8]
  | .ld_h_indHl => [0x66#8]
  | .ld_h_a => [0x67#8]
  | .ld_l_b => [0x68#8]
  | .ld_l_c => [0x69#8]
  | .ld_l_d => [0x6A#8]
  | .ld_l_e => [0x6B#8]
  | .ld_l_h => [0x6C#8]
  | .ld_l_l => [0x6D#8]
  | .ld_l_indHl => [0x6E#8]
  | .ld_l_a => [0x6F#8]
  | .ld_indHl_b => [0x70#8]
  | .ld_indHl_c => [0x71#8]
  | .ld_indHl_d => [0x72#8]
  | .ld_indHl_e => [0x73#8]
  | .ld_indHl_h => [0x74#8]
  | .ld_indHl_l => [0x75#8]
  | .halt => [0x76#8]
  | .ld_indHl_a => [0x77#8]
  | .ld_a_b => [0x78#8]
  | .ld_a_c => [0x79#8]
  | .ld_a_d => [0x7A#8]
  | .ld_a_e => [0x7B#8]
  | .ld_a_h => [0x7C#8]
  | .ld_a_l => [0x7D#8]
  | .ld_a_indHl => [0x7E#8]
  | .ld_a_a => [0x7F#8]
  | .add_a_b => [0x80#8]
  | .add_a_c => [0x81#8]
  | .add_a_d => [0x82#8]
  | .add_a_e => [0x83#8]
  | .add_a_h => [0x84#8]
  | .add_a_l => [0x85#8]
  | .add_a_indHl => [0x86#8]
  | .add_a_a => [0x87#8]
  | .adc_a_b => [0x88#8]
  | .adc_a_c => [0x89#8]
  | .adc_a_d => [0x8A#8]
  | .adc_a_e => [0x8B#8]
  | .adc_a_h => [0x8C#8]
  | .adc_a_l => [0x8D#8]
  | .adc_a_indHl => [0x8E#8]
  | .adc_a_a => [0x8F#8]
  | .sub_b => [0x90#8]
  | .sub_c => [0x91#8]
  | .sub_d => [0x92#8]
  | .sub_e => [0x93#8]
  | .sub_h => [0x94#8]
  | .sub_l => [0x95#8]
  | .sub_indHl => [0x96#8]
  | .sub_a => [0x97#8]
  | .sbc_a_b => [0x98#8]
  | .sbc_a_c => [0x99#8]
  | .sbc_a_d => [0x9A#8]
  | .sbc_a_e => [0x9B#8]
  | .sbc_a_h => [0x9C#8]
  | .sbc_a_l => [0x9D#8]
  | .sbc_a_indHl => [0x9E#8]
  | .sbc_a_a => [0x9F#8]
  | .and_b => [0xA0#8]
  | .and_c => [0xA1#8]
  | .and_d => [0xA2#8]
  | .and_e => [0xA3#8]
  | .and_h => [0xA4#8]
  | .and_l => [0xA5#8]
  | .and_indHl => [0xA6#8]
  | .and_a => [0xA7#8]
  | .xor_b => [0xA8#8]
  | .xor_c => [0xA9#8]
  | .xor_d => [0xAA#8]
  | .xor_e => [0xAB#8]
  | .xor_h => [0xAC#8]
  | .xor_l => [0xAD#8]
  | .xor_indHl => [0xAE#8]
  | .xor_a => [0xAF#8]
  | .or_b => [0xB0#8]
  | .or_c => [0xB1#8]
  | .or_d => [0xB2#8]
  | .or_e => [0xB3#8]
  | .or_h => [0xB4#8]
  | .or_l => [0xB5#8]
  | .or_indHl => [0xB6#8]
  | .or_a => [0xB7#8]
  | .cp_b => [0xB8#8]
  | .cp_c => [0xB9#8]
  | .cp_d => [0xBA#8]
  | .cp_e => [0xBB#8]
  | .cp_h => [0xBC#8]
  | .cp_l => [0xBD#8]
  | .cp_indHl => [0xBE#8]
  | .cp_a => [0xBF#8]
  | .ret_nz => [0xC0#8]
  | .pop_bc => [0xC1#8]
  | .push_bc => [0xC5#8]
  | .rst_00 => [0xC7#8]
  | .ret_z => [0xC8#8]
  | .ret => [0xC9#8]
  | .rst_08 => [0xCF#8]
  | .ret_nc => [0xD0#8]
  | .pop_de => [0xD1#8]
  | .push_de => [0xD5#8]
  | .rst_10 => [0xD7#8]
  | .ret_c => [0xD8#8]
  | .reti => [0xD9#8]
  | .rst_18 => [0xDF#8]
  | .pop_hl => [0xE1#8]
  | .ld_indC_a => [0xE2#8]
  | .push_hl => [0xE5#8]
  | .rst_20 => [0xE7#8]
  | .jp_hl => [0xE9#8]
  | .rst_28 => [0xEF#8]
  | .pop_af => [0xF1#8]
  | .ld_a_indC => [0xF2#8]
  | .di => [0xF3#8]
  | .push_af => [0xF5#8]
  | .rst_30 => [0xF7#8]
  | .ld_sp_hl => [0xF9#8]
  | .ei => [0xFB#8]
  | .rst_38 => [0xFF#8]
  | .rlc_b => [0xCB#8, 0x00#8]
  | .rlc_c => [0xCB#8, 0x01#8]
  | .rlc_d => [0xCB#8, 0x02#8]
  | .rlc_e => [0xCB#8, 0x03#8]
  | .rlc_h => [0xCB#8, 0x04#8]
  | .rlc_l => [0xCB#8, 0x05#8]
  | .rlc_indHl => [0xCB#8, 0x06#8]
  | .rlc_a => [0xCB#8, 0x07#8]
  | .rrc_b => [0xCB#8, 0x08#8]
  | .rrc_c => [0xCB#8, 0x09#8]
  | .rrc_d => [0xCB#8, 0x0A#8]
  | .rrc_e => [0xCB#8, 0x0B#8]
  | .rrc_h => [0xCB#8, 0x0C#8]
  | .rrc_l => [0xCB#8, 0x0D#8]
  | .rrc_indHl => [0xCB#8, 0x0E#8]
  | .rrc_a => [0xCB#8, 0x0F#8]
  | .rl_b => [0xCB#8, 0x10#8]
  | .rl_c => [0xCB#8, 0x11#8]
  | .rl_d => [0xCB#8, 0x12#8]
  | .rl_e => [0xCB#8, 0x13#8]
  | .rl_h => [0xCB#8, 0x14#8]
  | .rl_l => [0xCB#8, 0x15#8]
  | .rl_indHl => [0xCB#8, 0x16#8]
  | .rl_a => [0xCB#8, 0x17#8]
  | .rr_b => [0xCB#8, 0x18#8]
  | .rr_c => [0xCB#8, 0x19#8]
  | .rr_d => [0xCB#8, 0x1A#8]
  | .rr_e => [0xCB#8, 0x1B#8]
  | .rr_h => [0xCB#8, 0x1C#8]
  | .rr_l => [0xCB#8, 0x1D#8]
  | .rr_indHl => [0xCB#8, 0x1E#8]
  | .rr_a => [0xCB#8, 0x1F#8]
  | .sla_b => [0xCB#8, 0x20#8]
  | .sla_c => [0xCB#8, 0x21#8]
  | .sla_d => [0xCB#8, 0x22#8]
  | .sla_e => [0xCB#8, 0x23#8]
  | .sla_h => [0xCB#8, 0x24#8]
  | .sla_l => [0xCB#8, 0x25#8]
  | .sla_indHl => [0xCB#8, 0x26#8]
  | .sla_a => [0xCB#8, 0x27#8]
  | .sra_b => [0xCB#8, 0x28#8]
  | .sra_c => [0xCB#8, 0x29#8]
  | .sra_d => [0xCB#8, 0x2A#8]
  | .sra_e => [0xCB#8, 0x2B#8]
  | .sra_h => [0xCB#8, 0x2C#8]
  | .sra_l => [0xCB#8, 0x2D#8]
  | .sra_indHl => [0xCB#8, 0x2E#8]
  | .sra_a => [0xCB#8, 0x2F#8]
  | .swap_b => [0xCB#8, 0x30#8]
  | .swap_c => [0xCB#8, 0x31#8]
  | .swap_d => [0xCB#8, 0x32#8]
  | .swap_e => [0xCB#8, 0x33#8]
  | .swap_h => [0xCB#8, 0x34#8]
  | .swap_l => [0xCB#8, 0x35#8]
  | .swap_indHl => [0xCB#8, 0x36#8]
  | .swap_a => [0xCB#8, 0x37#8]
  | .srl_b => [0xCB#8, 0x38#8]
  | .srl_c => [0xCB#8, 0x39#8]
  | .srl_d => [0xCB#8, 0x3A#8]
  | .srl_e => [0xCB#8, 0x3B#8]
  | .srl_h => [0xCB#8, 0x3C#8]
  | .srl_l => [0xCB#8, 0x3D#8]
  | .srl_indHl => [0xCB#8, 0x3E#8]
  | .srl_a => [0xCB#8, 0x3F#8]
  | .bit_0_b => [0xCB#8, 0x40#8]
  | .bit_0_c => [0xCB#8, 0x41#8]
  | .bit_0_d => [0xCB#8, 0x42#8]
  | .bit_0_e => [0xCB#8, 0x43#8]
  | .bit_0_h => [0xCB#8, 0x44#8]
  | .bit_0_l => [0xCB#8, 0x45#8]
  | .bit_0_indHl => [0xCB#8, 0x46#8]
  | .bit_0_a => [0xCB#8, 0x47#8]
  | .bit_1_b => [0xCB#8, 0x48#8]
  | .bit_1_c => [0xCB#8, 0x49#8]
  | .bit_1_d => [0xCB#8, 0x4A#8]
  | .bit_1_e => [0xCB#8, 0x4B#8]
  | .bit_1_h => [0xCB#8, 0x4C#8]
  | .bit_1_l => [0xCB#8, 0x4D#8]
  | .bit_1_indHl => [0xCB#8, 0x4E#8]
  | .bit_1_a => [0xCB#8, 0x4F#8]
  | .bit_2_b => [0xCB#8, 0x50#8]
  | .bit_2_c => [0xCB#8, 0x51#8]
  | .bit_2_d => [0xCB#8, 0x52#8]
  | .bit_2_e => [0xCB#8, 0x53#8]
  | .bit_2_h => [0xCB#8, 0x54#8]
  | .bit_2_l => [0xCB#8, 0x55#8]
  | .bit_2_indHl => [0xCB#8, 0x56#8]
  | .bit_2_a => [0xCB#8, 0x57#8]
  | .bit_3_b => [0xCB#8, 0x58#8]
  | .bit_3_c => [0xCB#8, 0x59#8]
  | .bit_3_d => [0xCB#8, 0x5A#8]
  | .bit_3_e => [0xCB#8, 0x5B#8]
  | .bit_3_h => [0xCB#8, 0x5C#8]
  | .bit_3_l => [0xCB#8, 0x5D#8]
  | .bit_3_indHl => [0xCB#8, 0x5E#8]
  | .bit_3_a => [0xCB#8, 0x5F#8]
  | .bit_4_b => [0xCB#8, 0x60#8]
  | .bit_4_c => [0xCB#8, 0x61#8]
  | .bit_4_d => [0xCB#8, 0x62#8]
  | .bit_4_e => [0xCB#8, 0x63#8]
  | .bit_4_h => [0xCB#8, 0x64#8]
  | .bit_4_l => [0xCB#8, 0x65#8]
  | .bit_4_indHl => [0xCB#8, 0x66#8]
  | .bit_4_a => [0xCB#8, 0x67#8]
  | .bit_5_b => [0xCB#8, 0x68#8]
  | .bit_5_c => [0xCB#8, 0x69#8]
  | .bit_5_d => [0xCB#8, 0x6A#8]
  | .bit_5_e => [0xCB#8, 0x6B#8]
  | .bit_5_h => [0xCB#8, 0x6C#8]
  | .bit_5_l => [0xCB#8, 0x6D#8]
  | .bit_5_indHl => [0xCB#8, 0x6E#8]
  | .bit_5_a => [0xCB#8, 0x6F#8]
  | .bit_6_b => [0xCB#8, 0x70#8]
  | .bit_6_c => [0xCB#8, 0x71#8]
  | .bit_6_d => [0xCB#8, 0x72#8]
  | .bit_6_e => [0xCB#8, 0x73#8]
  | .bit_6_h => [0xCB#8, 0x74#8]
  | .bit_6_l => [0xCB#8, 0x75#8]
  | .bit_6_indHl => [0xCB#8, 0x76#8]
  | .bit_6_a => [0xCB#8, 0x77#8]
  | .bit_7_b => [0xCB#8, 0x78#8]
  | .bit_7_c => [0xCB#8, 0x79#8]
  | .bit_7_d => [0xCB#8, 0x7A#8]
  | .bit_7_e => [0xCB#8, 0x7B#8]
  | .bit_7_h => [0xCB#8, 0x7C#8]
  | .bit_7_l => [0xCB#8, 0x7D#8]
  | .bit_7_indHl => [0xCB#8, 0x7E#8]
  | .bit_7_a => [0xCB#8, 0x7F#8]
  | .res_0_b => [0xCB#8, 0x80#8]
  | .res_0_c => [0xCB#8, 0x81#8]
  | .res_0_d => [0xCB#8, 0x82#8]
  | .res_0_e => [0xCB#8, 0x83#8]
  | .res_0_h => [0xCB#8, 0x84#8]
  | .res_0_l => [0xCB#8, 0x85#8]
  | .res_0_indHl => [0xCB#8, 0x86#8]
  | .res_0_a => [0xCB#8, 0x87#8]
  | .res_1_b => [0xCB#8, 0x88#8]
  | .res_1_c => [0xCB#8, 0x89#8]
  | .res_1_d => [0xCB#8, 0x8A#8]
  | .res_1_e => [0xCB#8, 0x8B#8]
  | .res_1_h => [0xCB#8, 0x8C#8]
  | .res_1_l => [0xCB#8, 0x8D#8]
  | .res_1_indHl => [0xCB#8, 0x8E#8]
  | .res_1_a => [0xCB#8, 0x8F#8]
  | .res_2_b => [0xCB#8, 0x90#8]
  | .res_2_c => [0xCB#8, 0x91#8]
  | .res_2_d => [0xCB#8, 0x92#8]
  | .res_2_e => [0xCB#8, 0x93#8]
  | .res_2_h => [0xCB#8, 0x94#8]
  | .res_2_l => [0xCB#8, 0x95#8]
  | .res_2_indHl => [0xCB#8, 0x96#8]
  | .res_2_a => [0xCB#8, 0x97#8]
  | .res_3_b => [0xCB#8, 0x98#8]
  | .res_3_c => [0xCB#8, 0x99#8]
  | .res_3_d => [0xCB#8, 0x9A#8]
  | .res_3_e => [0xCB#8, 0x9B#8]
  | .res_3_h => [0xCB#8, 0x9C#8]
  | .res_3_l => [0xCB#8, 0x9D#8]
  | .res_3_indHl => [0xCB#8, 0x9E#8]
  | .res_3_a => [0xCB#8, 0x9F#8]
  | .res_4_b => [0xCB#8, 0xA0#8]
  | .res_4_c => [0xCB#8, 0xA1#8]
  | .res_4_d => [0xCB#8, 0xA2#8]
  | .res_4_e => [0xCB#8, 0xA3#8]
  | .res_4_h => [0xCB#8, 0xA4#8]
  | .res_4_l => [0xCB#8, 0xA5#8]
  | .res_4_indHl => [0xCB#8, 0xA6#8]
  | .res_4_a => [0xCB#8, 0xA7#8]
  | .res_5_b => [0xCB#8, 0xA8#8]
  | .res_5_c => [0xCB#8, 0xA9#8]
  | .res_5_d => [0xCB#8, 0xAA#8]
  | .res_5_e => [0xCB#8, 0xAB#8]
  | .res_5_h => [0xCB#8, 0xAC#8]
  | .res_5_l => [0xCB#8, 0xAD#8]
  | .res_5_indHl => [0xCB#8, 0xAE#8]
  | .res_5_a => [0xCB#8, 0xAF#8]
  | .res_6_b => [0xCB#8, 0xB0#8]
  | .res_6_c => [0xCB#8, 0xB1#8]
  | .res_6_d => [0xCB#8, 0xB2#8]
  | .res_6_e => [0xCB#8, 0xB3#8]
  | .res_6_h => [0xCB#8, 0xB4#8]
  | .res_6_l => [0xCB#8, 0xB5#8]
  | .res_6_indHl => [0xCB#8, 0xB6#8]
  | .res_6_a => [0xCB#8, 0xB7#8]
  | .res_7_b => [0xCB#8, 0xB8#8]
  | .res_7_c => [0xCB#8, 0xB9#8]
  | .res_7_d => [0xCB#8, 0xBA#8]
  | .res_7_e => [0xCB#8, 0xBB#8]
  | .res_7_h => [0xCB#8, 0xBC#8]
  | .res_7_l => [0xCB#8, 0xBD#8]
  | .res_7_indHl => [0xCB#8, 0xBE#8]
  | .res_7_a => [0xCB#8, 0xBF#8]
  | .set_0_b => [0xCB#8, 0xC0#8]
  | .set_0_c => [0xCB#8, 0xC1#8]
  | .set_0_d => [0xCB#8, 0xC2#8]
  | .set_0_e => [0xCB#8, 0xC3#8]
  | .set_0_h => [0xCB#8, 0xC4#8]
  | .set_0_l => [0xCB#8, 0xC5#8]
  | .set_0_indHl => [0xCB#8, 0xC6#8]
  | .set_0_a => [0xCB#8, 0xC7#8]
  | .set_1_b => [0xCB#8, 0xC8#8]
  | .set_1_c => [0xCB#8, 0xC9#8]
  | .set_1_d => [0xCB#8, 0xCA#8]
  | .set_1_e => [0xCB#8, 0xCB#8]
  | .set_1_h => [0xCB#8, 0xCC#8]
  | .set_1_l => [0xCB#8, 0xCD#8]
  | .set_1_indHl => [0xCB#8, 0xCE#8]
  | .set_1_a => [0xCB#8, 0xCF#8]
  | .set_2_b => [0xCB#8, 0xD0#8]
  | .set_2_c => [0xCB#8, 0xD1#8]
  | .set_2_d => [0xCB#8, 0xD2#8]
  | .set_2_e => [0xCB#8, 0xD3#8]
  | .set_2_h => [0xCB#8, 0xD4#8]
  | .set_2_l => [0xCB#8, 0xD5#8]
  | .set_2_indHl => [0xCB#8, 0xD6#8]
  | .set_2_a => [0xCB#8, 0xD7#8]
  | .set_3_b => [0xCB#8, 0xD8#8]
  | .set_3_c => [0xCB#8, 0xD9#8]
  | .set_3_d => [0xCB#8, 0xDA#8]
  | .set_3_e => [0xCB#8, 0xDB#8]
  | .set_3_h => [0xCB#8, 0xDC#8]
  | .set_3_l => [0xCB#8, 0xDD#8]
  | .set_3_indHl => [0xCB#8, 0xDE#8]
  | .set_3_a => [0xCB#8, 0xDF#8]
  | .set_4_b => [0xCB#8, 0xE0#8]
  | .set_4_c => [0xCB#8, 0xE1#8]
  | .set_4_d => [0xCB#8, 0xE2#8]
  | .set_4_e => [0xCB#8, 0xE3#8]
  | .set_4_h => [0xCB#8, 0xE4#8]
  | .set_4_l => [0xCB#8, 0xE5#8]
  | .set_4_indHl => [0xCB#8, 0xE6#8]
  | .set_4_a => [0xCB#8, 0xE7#8]
  | .set_5_b => [0xCB#8, 0xE8#8]
  | .set_5_c => [0xCB#8, 0xE9#8]
  | .set_5_d => [0xCB#8, 0xEA#8]
  | .set_5_e => [0xCB#8, 0xEB#8]
  | .set_5_h => [0xCB#8, 0xEC#8]
  | .set_5_l => [0xCB#8, 0xED#8]
  | .set_5_indHl => [0xCB#8, 0xEE#8]
  | .set_5_a => [0xCB#8, 0xEF#8]
  | .set_6_b => [0xCB#8, 0xF0#8]
  | .set_6_c => [0xCB#8, 0xF1#8]
  | .set_6_d => [0xCB#8, 0xF2#8]
  | .set_6_e => [0xCB#8, 0xF3#8]
  | .set_6_h => [0xCB#8, 0xF4#8]
  | .set_6_l => [0xCB#8, 0xF5#8]
  | .set_6_indHl => [0xCB#8, 0xF6#8]
  | .set_6_a => [0xCB#8, 0xF7#8]
  | .set_7_b => [0xCB#8, 0xF8#8]
  | .set_7_c => [0xCB#8, 0xF9#8]
  | .set_7_d => [0xCB#8, 0xFA#8]
  | .set_7_e => [0xCB#8, 0xFB#8]
  | .set_7_h => [0xCB#8, 0xFC#8]
  | .set_7_l => [0xCB#8, 0xFD#8]
  | .set_7_indHl => [0xCB#8, 0xFE#8]
  | .set_7_a => [0xCB#8, 0xFF#8]

/-- The length of an instruction in bytes (R148, R149). -/
def Instr.length (i : Instr) : Nat := (encode i).length

/-- The bytes of an instruction given as a number in the numbering of spec/opcode_table.json. The table writes a row of the CB
map as one 16-bit number with the prefix 0xCB in bits 15 to 8 and the CB byte in bits 7 to 0; every other row has only its
first byte, and a later byte counts on above it. Bits above `nbits` are 0 (log 8). -/
def tableWordBytes (nbits w : Nat) : Byte × Byte × Byte :=
  if nbits = 16 ∧ w / 256 % 256 = 0xCB then (0xCB#8, BitVec.ofNat 8 w, 0x00#8)
  else
    let v := w % 2 ^ nbits
    (BitVec.ofNat 8 v, BitVec.ofNat 8 (v / 256), BitVec.ofNat 8 (v / 65536))

/-- The instruction this decoder reads from a table word (the host's question). -/
def decodeTableWord (nbits w : Nat) : Option Instr :=
  let bytes := tableWordBytes nbits w
  match decode [bytes.1, bytes.2.1, bytes.2.2] with
  | .ok (i, _) => some i
  | .error _ => none

end Sys2Proof
end

