-- ==== Sys2Proof/Config.lean ====
section
/-! DEFINITION. What the spec fixes as a number once for the whole machine: 00_scope.md R7, 20_memory.md R98,
60_exceptions.md R421, R440, R442, R450, R460. The spec leaves no value of an instruction open; the one free value
here stands for a point of which the spec's rules differ. Launch parameters and draws (R8) are arguments of
Sys2Proof.Machine.launch. -/

namespace Sys2Proof.Config

/-- What a byte of a storage array reads as when nothing has written it since reset: the reference draw of RESET_MEM
(10_state.md R70). DESIGN CHOICE, unsafe: log 1. -/
def unwrittenByte : Byte := 0x00#8

/-- Whether an EI executed with IME already true holds the dispatch back until the next instruction is done. 70_reset_and_hazards.md
R551 says so ("no dispatch happens between EI and X"); 60_exceptions.md R421 and R422 dispatch whenever IME is true and an enabled
bit is pending. A free value: it has no body, and what is proved holds of a machine of either kind. DESIGN CHOICE, safe: log 21. -/
opaque eiHoldsDispatch : Bool

/-- One ROM bank, 20_memory.md R85. -/
def romBankSize : Nat := 0x4000

/-- One external RAM bank, 20_memory.md R87. -/
def ramBankSize : Nat := 0x2000

/-- The smallest ROM image a launch takes, 70_reset_and_hazards.md R541. -/
def romMinSize : Nat := 0x8000

/-- 10_state.md R39: 8 KiB of video RAM. -/
def vramSize : Nat := 0x2000

/-- 10_state.md R39: 8 KiB of work RAM. -/
def wramSize : Nat := 0x2000

/-- 10_state.md R39: 127 bytes of high RAM. -/
def hramSize : Nat := 127

/-- 10_state.md R39: 160 bytes of sprite attributes. -/
def oamSize : Nat := 160

/-- 10_state.md R39: external RAM of a banked cartridge. -/
def eramBankedSize : Nat := 0x8000

/-- 10_state.md R39: external RAM of an unbanked cartridge. -/
def eramUnbankedSize : Nat := 0x2000

/-- 10_state.md R39: the boot ROM. -/
def bootSize : Nat := 0x100

/-- 20_memory.md R92: where the cartridge type byte stands in the ROM image. -/
def cartTypeOffset : Nat := 0x0147

/-- 60_exceptions.md R423: what an interrupt dispatch adds to the step's cycles. -/
def dispatchCycles : Nat := 20

/-- 60_exceptions.md R440, R442: a Halted or Stopped idle step. -/
def idleCycles : Nat := 4

/-- 60_exceptions.md R450: cycles per DIV increment. -/
def divPeriod : Nat := 256

/-- 60_exceptions.md R462: cycles per frame. -/
def frameCycles : Nat := 70224

end Sys2Proof.Config
end

