-- ==== Sys2Proof/Machine/State.lean ====
section
/-! DEFINITION. Every piece of state 10_state.md gives the machine, as plain data, the reasons a step can stop, and the
machine right after reset (10_state.md R70, column "no boot"; 70_reset_and_hazards.md R540). -/

namespace Sys2Proof.Machine

/-- The contents of a storage array (R39): (offset, byte) pairs, offsets strictly rising, and no pair whose byte is
`Config.unwrittenByte`, which every unlisted offset reads as (log 1). -/
abbrev Memory := List Host.Cell

/-- The one exception kind of the machine (60_exceptions.md R510). -/
inductive ExceptionKind where
  | decodeError
  deriving DecidableEq, Repr

/-- R36. `faulted k pc byte` is Faulted(DecodeError, pc, byte); nothing leaves it. -/
inductive CpuMode where
  | running
  | halted
  | stopped
  | faulted (kind : ExceptionKind) (pc : Word) (byte : Byte)
  deriving DecidableEq, Repr

/-- The modes of the pixel processor (R54). -/
inductive PpuMode where
  | oamScan
  | drawLine
  | hblank
  | vblank
  deriving DecidableEq, Repr

/-- The two rows of the input matrix (R66). -/
inductive KeyRow where
  | dir
  | act
  deriving DecidableEq, Repr

/-- A host key event on bit k of one row (60_exceptions.md R525). -/
inductive KeyEvent where
  | down (row : KeyRow) (k : Fin 4)
  | up (row : KeyRow) (k : Fin 4)
  deriving DecidableEq, Repr

/-- Why a step stops. -/
inductive Fault where
  /-- Raised by `step` alone, at a machine whose cpu_mode is Faulted(DecodeError, pc, byte): 60_exceptions.md R510, "A Faulted
  machine takes no further step". Safe: the machine has no step there either (log 6). -/
  | decodeErrorFaulted (pc : Word) (byte : Byte)
  deriving DecidableEq, Repr

/-- Why an instruction has no meaning. No arm of `exec` and no operation raises one. -/
inductive Refusal where
  /-- An instruction without a meaning, by its mnemonic; raised by an arm of `exec` only, and no arm raises it. Safe. -/
  | notModelled (mnemonic : String)
  deriving DecidableEq, Repr

/-- The machine. What 10_state.md R71 names is no part of it: the host's cycle budget and the debugger's breakpoints are arguments
of the host's functions (HostInterface.lean), and the field `cycles`, through which a step hands its count to the devices and
to the host, is the model's own and set anew by every step. -/
structure State where
  /-- R30: the accumulator. -/
  a : Byte
  /-- R30, R32: the flags Z N H C in bits 7 to 4; bits 3 to 0 are 0. -/
  f : Byte
  /-- R30. -/
  b : Byte
  /-- R30. -/
  c : Byte
  /-- R30. -/
  d : Byte
  /-- R30. -/
  e : Byte
  /-- R30. -/
  h : Byte
  /-- R30. -/
  l : Byte
  /-- R34: the stack pointer. -/
  sp : Word
  /-- R35: the address of the next byte to fetch. -/
  pc : Word
  /-- R36. -/
  cpuMode : CpuMode
  /-- R37: the interrupt master enable. -/
  ime : Bool
  /-- R38: the EI delay latch. -/
  eiPending : Bool
  /-- The model's own field: the cycles of the current or last system step, the count that CPU.step hands to the devices
  (60_exceptions.md R420). Not architectural (R71): every step sets it first, so what it holds before one is of no account, and
  its value at reset is the model's (log 4). -/
  cycles : Nat
  /-- R39: the launch ROM image, read-only. -/
  rom : Memory
  /-- R39: the length of the ROM image. -/
  romSize : Nat
  /-- R39: the boot ROM, present only when one was given. -/
  boot : Option Memory
  /-- R39: video RAM. -/
  vram : Memory
  /-- R39: external RAM. -/
  eram : Memory
  /-- R39: work RAM. -/
  wram : Memory
  /-- R39: sprite attribute memory. -/
  oam : Memory
  /-- R39: high RAM. -/
  hram : Memory
  /-- R40. -/
  romBank : BitVec 7
  /-- R40. -/
  ramBank : BitVec 2
  /-- R40. -/
  ramEnabled : Bool
  /-- R40. -/
  bankingMode : BitVec 1
  /-- R41: fixed at launch from ROM[0x0147]. -/
  cartBanked : Bool
  /-- R41: the boot overlay is mapped. -/
  bootMapped : Bool
  /-- R41: the last value written to 0xFF46. -/
  dmaLast : Byte
  /-- R45: IF[4:0]. -/
  ifReg : BitVec 5
  /-- R46: IE[4:0]. -/
  ieReg : BitVec 5
  /-- R50. -/
  div : Byte
  /-- R47: cycles accumulated toward the next DIV increment. -/
  divAcc : Nat
  /-- R51. -/
  tima : Byte
  /-- R52. -/
  tma : Byte
  /-- R53: TAC[2:0]. -/
  tac : BitVec 3
  /-- R47: cycles accumulated toward the next TIMA increment. -/
  timaAcc : Nat
  /-- R55. -/
  lcdc : Byte
  /-- R56: STAT[6:3], the interrupt enables LYC, OAM, VBlank, HBlank from the top. -/
  statEn : BitVec 4
  /-- R54. -/
  ppuMode : PpuMode
  /-- R54: cycles since the last mode transition. -/
  modeClock : Nat
  /-- R54, 60_exceptions.md R467: LY == LYC as last evaluated. -/
  coincidence : Bool
  /-- R58. -/
  ly : Byte
  /-- R59. -/
  lyc : Byte
  /-- R57. -/
  scy : Byte
  /-- R57. -/
  scx : Byte
  /-- R61. -/
  bgp : Byte
  /-- R61. -/
  obp0 : Byte
  /-- R61. -/
  obp1 : Byte
  /-- R62. -/
  wy : Byte
  /-- R62. -/
  wx : Byte
  /-- R65: the output pixel buffer, 144 lines of 160 shades. -/
  frame : Vector (Vector (BitVec 2) 160) 144
  /-- R66: JOYP[5:4]. -/
  sel : BitVec 2
  /-- R66: the direction row, active low: bit 0 Right, 1 Left, 2 Up, 3 Down. -/
  dirRow : BitVec 4
  /-- R66: the action row, active low: bit 0 A, 1 B, 2 Select, 3 Start. -/
  actRow : BitVec 4
  /-- 00_scope.md R8, 60_exceptions.md R441: the launch parameter HALT_WAKE_NEEDS_IE (log 3). -/
  haltWakeNeedsIe : Bool
  /-- The model's own field: what the host will send, the first batch before the coming step, the second before the step
  after it, and nothing once the list is used up (60_exceptions.md R530; log 5). -/
  hostEvents : List (List KeyEvent)
  deriving DecidableEq, Repr

/-- The machine right after reset: the launch of R70's column "no boot" with a 32 KiB image of unwritten bytes, whose type
byte 0x00 makes the cartridge unbanked (20_memory.md R92). The image is the model's choice (log 2), and so is what the
RAMs hold (log 1). -/
def State.reset : State where
  a := 0x01#8
  f := 0xB0#8
  b := 0x00#8
  c := 0x13#8
  d := 0x00#8
  e := 0xD8#8
  h := 0x01#8
  l := 0x4D#8
  sp := 0xFFFE#16
  pc := 0x0100#16
  cpuMode := .running
  ime := false
  eiPending := false
  cycles := 0
  rom := []
  romSize := Config.romMinSize
  boot := none
  vram := []
  eram := []
  wram := []
  oam := []
  hram := []
  romBank := 1#7
  ramBank := 0#2
  ramEnabled := false
  bankingMode := 0#1
  cartBanked := false
  bootMapped := false
  dmaLast := 0xFF#8
  ifReg := 0x01#5
  ieReg := 0x00#5
  div := 0x00#8
  divAcc := 0
  tima := 0x00#8
  tma := 0x00#8
  tac := 0#3
  timaAcc := 0
  lcdc := 0x91#8
  statEn := 0#4
  ppuMode := .oamScan
  modeClock := 0
  coincidence := true
  ly := 0x00#8
  lyc := 0x00#8
  scy := 0x00#8
  scx := 0x00#8
  bgp := 0xFC#8
  obp0 := 0xFF#8
  obp1 := 0xFF#8
  wy := 0x00#8
  wx := 0x00#8
  frame := Vector.replicate 144 (Vector.replicate 160 0#2)
  sel := 0b11#2
  dirRow := 0xF#4
  actRow := 0xF#4
  haltWakeNeedsIe := false
  hostEvents := []

/-- What a meaning and a step answer. -/
abbrev Result := Host.Outcome State Fault Refusal

end Sys2Proof.Machine
end

