-- ==== Sys2Proof/Machine/Memory.lean ====
section
/-! DEFINITION. Reading and writing one byte of a storage array (10_state.md R39), the canonical form every array keeps,
and the array that holds a list of bytes. -/

namespace Sys2Proof.Machine

/-- The byte at an offset: the listed one, or `Config.unwrittenByte`. -/
def Memory.read : Memory → Nat → Byte
  | [], _ => Config.unwrittenByte
  | (k, w) :: m, i => if i = k then w else if i < k then Config.unwrittenByte else Memory.read m i

/-- The listed pair of an offset and its byte, or nothing for a byte that an unlisted offset reads as. -/
def Memory.cell (i : Nat) (v : Byte) : Memory :=
  if v = Config.unwrittenByte then [] else [(i, v)]

/-- Store a byte; the canonical form stays. -/
def Memory.write : Memory → Nat → Byte → Memory
  | [], i, v => Memory.cell i v
  | (k, w) :: m, i, v =>
    if i < k then Memory.cell i v ++ (k, w) :: m
    else if i = k then Memory.cell i v ++ m
    else (k, w) :: Memory.write m i v

/-- The canonical form from an offset on: offsets at least `low` and strictly rising, no byte an unlisted offset reads as. -/
def Memory.wfFrom : Nat → Memory → Bool
  | _, [] => true
  | low, (k, w) :: m => decide (low ≤ k) && (w != Config.unwrittenByte) && Memory.wfFrom (k + 1) m

/-- The canonical form. -/
def Memory.wf (m : Memory) : Bool := Memory.wfFrom 0 m

/-- Every listed offset lies below a size. -/
def Memory.within (size : Nat) (m : Memory) : Bool := m.all fun cell => decide (cell.1 < size)

/-- The array that holds a list of bytes from an offset on. -/
def Memory.ofBytesFrom : Nat → List Byte → Memory
  | _, [] => []
  | i, v :: vs => Memory.cell i v ++ Memory.ofBytesFrom (i + 1) vs

/-- The array of a given size that holds a list of bytes from offset 0 on. -/
def Memory.ofBytes (size : Nat) (vs : List Byte) : Memory := Memory.ofBytesFrom 0 (vs.take size)

end Sys2Proof.Machine
end

