-- ==== Sys2Proof/Machine/Ops.lean ====
section
/-! DEFINITION. The named operations of the machine: registers and pairs (10_state.md R30 to R35), interrupt requests
(60_exceptions.md R430), the bus with every device register behind it (20_memory.md R80 to R111), the stack (40_loads.md
R226, R227), taking an interrupt (R423), raising the one exception (45_system.md R396) and returning (44_control.md R369). -/

namespace Sys2Proof.Machine

/-! ## Registers -/

/-- Read an 8-bit register. -/
def State.reg (s : State) : Reg8 → Byte
  | .a => s.a
  | .b => s.b
  | .c => s.c
  | .d => s.d
  | .e => s.e
  | .h => s.h
  | .l => s.l

/-- Write an 8-bit register. -/
def State.setReg (s : State) (r : Reg8) (v : Byte) : State :=
  match r with
  | .a => { s with a := v }
  | .b => { s with b := v }
  | .c => { s with c := v }
  | .d => { s with d := v }
  | .e => { s with e := v }
  | .h => { s with h := v }
  | .l => { s with l := v }

/-- AF, a view (R31). -/
def State.af (s : State) : Word := word s.a s.f
/-- BC, a view (R31). -/
def State.bc (s : State) : Word := word s.b s.c
/-- DE, a view (R31). -/
def State.de (s : State) : Word := word s.d s.e
/-- HL, a view (R31). -/
def State.hl (s : State) : Word := word s.h s.l

/-- Write F: bits 3 to 0 store 0 (R32). -/
def State.setF (s : State) (v : Byte) : State := { s with f := v &&& 0xF0#8 }

/-- Write HL (R31). -/
def State.setHl (s : State) (w : Word) : State := { s with h := hi w, l := lo w }

/-- Read a pair of selector dd (R143). -/
def State.reg16 (s : State) : Reg16 → Word
  | .bc => s.bc
  | .de => s.de
  | .hl => s.hl
  | .sp => s.sp

/-- Write a pair of selector dd (R31, R143). -/
def State.setReg16 (s : State) (r : Reg16) (w : Word) : State :=
  match r with
  | .bc => { s with b := hi w, c := lo w }
  | .de => { s with d := hi w, e := lo w }
  | .hl => s.setHl w
  | .sp => { s with sp := w }

/-- Read a pair of selector qq (R143). -/
def State.stackPair (s : State) : StackPair → Word
  | .bc => s.bc
  | .de => s.de
  | .hl => s.hl
  | .af => s.af

/-- Write a pair of selector qq (R31, R143); AF stores only v[7:4] into F (R32). -/
def State.setStackPair (s : State) (q : StackPair) (w : Word) : State :=
  match q with
  | .bc => { s with b := hi w, c := lo w }
  | .de => { s with d := hi w, e := lo w }
  | .hl => s.setHl w
  | .af => { s with a := hi w }.setF (lo w)

/-! ## Interrupt sources -/

/-- The five sources (10_state.md R43). -/
inductive IrqSource where
  | vblank
  | lcdStat
  | timer
  | serial
  | joypad
  deriving DecidableEq, Repr

/-- The bit of a source in IF and IE (R43). -/
def irqBit : IrqSource → Nat
  | .vblank => 0
  | .lcdStat => 1
  | .timer => 2
  | .serial => 3
  | .joypad => 4

/-- The source's bit alone. -/
def irqMask (i : IrqSource) : BitVec 5 := 1#5 <<< irqBit i

/-- The vector of a source (R44). -/
def irqVector : IrqSource → Word
  | .vblank => 0x0040#16
  | .lcdStat => 0x0048#16
  | .timer => 0x0050#16
  | .serial => 0x0058#16
  | .joypad => 0x0060#16

/-- `request(i)` (60_exceptions.md R430). -/
def request (i : IrqSource) (s : State) : State := { s with ifReg := s.ifReg ||| irqMask i }

/-- Take a source's flag out of IF (R423, "clear that IF bit"). -/
def clearRequest (i : IrqSource) (s : State) : State := { s with ifReg := s.ifReg &&& ~~~(irqMask i) }

/-- The lowest-numbered set bit of IE & IF (R423), none when there is none. -/
def pendingIrq (s : State) : Option IrqSource :=
  let p := s.ieReg &&& s.ifReg
  if p.getLsbD 0 then some .vblank
  else if p.getLsbD 1 then some .lcdStat
  else if p.getLsbD 2 then some .timer
  else if p.getLsbD 3 then some .serial
  else if p.getLsbD 4 then some .joypad
  else none

/-! ## The coincidence of LY and LYC -/

/-- `coincidence_update()` (60_exceptions.md R467). -/
def coincidenceUpdate (s : State) : State :=
  let new := decide (s.ly = s.lyc)
  let s' :=
    if new && !s.coincidence && s.statEn.getLsbD 3 && s.lcdc.getLsbD 7 then request .lcdStat s else s
  { s' with coincidence := new }

/-! ## Address decode -/

/-- The device registers of the I/O page (20_memory.md R100) and 0xFFFF (R102). -/
inductive IoReg where
  | joyp | div | tima | tma | tac | ifr | lcdc | stat | scy | scx | ly | lyc | dma | bgp | obp0 | obp1 | wy | wx | boot
  deriving DecidableEq, Repr

/-- The I/O decode of 0xFF00 to 0xFF7F (R100); none where the read is a sentinel and the write is discarded. -/
def ioReg? : Nat → Option IoReg
  | 0xFF00 => some .joyp
  | 0xFF04 => some .div
  | 0xFF05 => some .tima
  | 0xFF06 => some .tma
  | 0xFF07 => some .tac
  | 0xFF0F => some .ifr
  | 0xFF40 => some .lcdc
  | 0xFF41 => some .stat
  | 0xFF42 => some .scy
  | 0xFF43 => some .scx
  | 0xFF44 => some .ly
  | 0xFF45 => some .lyc
  | 0xFF46 => some .dma
  | 0xFF47 => some .bgp
  | 0xFF48 => some .obp0
  | 0xFF49 => some .obp1
  | 0xFF4A => some .wy
  | 0xFF4B => some .wx
  | 0xFF50 => some .boot
  | _ => none

/-- What an address reaches (R82). The offsets are into the arrays of 10_state.md R39. -/
inductive BusTarget where
  | boot (i : Nat)
  | rom (i : Nat)
  | vram (i : Nat)
  | eram (i : Nat)
  | eramDisabled
  | wram (i : Nat)
  | oam (i : Nat)
  | unusable
  | io (r : IoReg)
  | ioUnmapped
  | hram (i : Nat)
  | ie
  deriving DecidableEq, Repr

/-- The effective ROM bank of a banked cartridge (R98). -/
def effRomBank (s : State) : Nat := s.romBank.toNat % (s.romSize / Config.romBankSize)

/-- The ROM offset that address n of 0x4000 to 0x7FFF shows (R85). -/
def switchableRomOffset (s : State) (n : Nat) : Nat :=
  if s.cartBanked then effRomBank s * Config.romBankSize + (n - 0x4000) else n

/-- What address n of 0xA000 to 0xBFFF reaches (R87, R99). -/
def eramTarget (s : State) (n : Nat) : BusTarget :=
  if s.cartBanked then
    if s.ramEnabled then .eram (s.ramBank.toNat * Config.ramBankSize + (n - 0xA000)) else .eramDisabled
  else .eram (n - 0xA000)

/-- The address decode of R82, its rows from top to bottom. -/
def busTarget (s : State) (addr : Word) : BusTarget :=
  let n := addr.toNat
  if n < 0x0100 ∧ s.bootMapped = true then .boot n
  else if n < 0x4000 then .rom n
  else if n < 0x8000 then .rom (switchableRomOffset s n)
  else if n < 0xA000 then .vram (n - 0x8000)
  else if n < 0xC000 then eramTarget s n
  else if n < 0xE000 then .wram (n - 0xC000)
  else if n < 0xFE00 then .wram (n - 0xE000)
  else if n < 0xFEA0 then .oam (n - 0xFE00)
  else if n < 0xFF00 then .unusable
  else if n < 0xFF80 then
    match ioReg? n with
    | some r => .io r
    | none => .ioUnmapped
  else if n < 0xFFFF then .hram (n - 0xFF80)
  else .ie

/-! ## Reading -/

/-- The mode as STAT[1:0] shows it (10_state.md R54). -/
def modeCode : PpuMode → BitVec 2
  | .hblank => 0#2
  | .vblank => 1#2
  | .oamScan => 2#2
  | .drawLine => 3#2

/-- The row bits a JOYP read shows (10_state.md R66): the AND of the selected rows, 0xF if none. -/
def joypRows (s : State) : BitVec 4 :=
  (if s.sel.getLsbD 0 then 0xF#4 else s.dirRow) &&& (if s.sel.getLsbD 1 then 0xF#4 else s.actRow)

/-- Reading a device register (R100; 10_state.md R42 to R66). -/
def readIo (s : State) : IoReg → Byte
  | .joyp => 0b11#2 ++ s.sel ++ joypRows s
  | .div => s.div
  | .tima => s.tima
  | .tma => s.tma
  | .tac => 0b11111#5 ++ s.tac
  | .ifr => 0b111#3 ++ s.ifReg
  | .lcdc => s.lcdc
  | .stat => 1#1 ++ s.statEn ++ BitVec.ofBool s.coincidence ++ modeCode s.ppuMode
  | .scy => s.scy
  | .scx => s.scx
  | .ly => s.ly
  | .lyc => s.lyc
  | .dma => s.dmaLast
  | .bgp => s.bgp
  | .obp0 => s.obp0
  | .obp1 => s.obp1
  | .wy => s.wy
  | .wx => s.wx
  | .boot => 0xFF#8

/-- The boot ROM's byte; an absent boot ROM is never mapped (log 14). -/
def readBoot (s : State) (i : Nat) : Byte :=
  match s.boot with
  | some m => m.read i
  | none => 0xFF#8

/-- The byte a target gives (R82). -/
def readTarget (s : State) : BusTarget → Byte
  | .boot i => readBoot s i
  | .rom i => s.rom.read i
  | .vram i => s.vram.read i
  | .eram i => s.eram.read i
  | .eramDisabled => 0xFF#8
  | .wram i => s.wram.read i
  | .oam i => s.oam.read i
  | .unusable => 0x00#8
  | .io r => readIo s r
  | .ioUnmapped => 0xFF#8
  | .hram i => s.hram.read i
  | .ie => 0b000#3 ++ s.ieReg

/-- `MemRead(addr, 1)` (R80). It changes nothing (R105). -/
def memRead (s : State) (addr : Word) : Byte := readTarget s (busTarget s addr)

/-! ## Writing -/

/-- A write to 0x2000 to 0x3FFF of a banked cartridge (R95). -/
def selectRomLow (v : Byte) (s : State) : State :=
  let low : BitVec 5 := v.extractLsb' 0 5
  let low' : BitVec 5 := if low = 0#5 then 1#5 else low
  { s with romBank := s.romBank.extractLsb' 5 2 ++ low' }

/-- A write to 0x4000 to 0x5FFF of a banked cartridge (R96). -/
def selectHigh (v : Byte) (s : State) : State :=
  if s.bankingMode = 0#1 then { s with romBank := v.extractLsb' 0 2 ++ s.romBank.extractLsb' 0 5 }
  else { s with ramBank := v.extractLsb' 0 2 }

/-- A write to 0x0000 to 0x7FFF: the cartridge control ranges (R93 to R97). -/
def cartWrite (addr : Word) (v : Byte) (s : State) : State :=
  if s.cartBanked then
    if addr.toNat < 0x2000 then { s with ramEnabled := decide (v.extractLsb' 0 4 = 0xA#4) }
    else if addr.toNat < 0x4000 then selectRomLow v s
    else if addr.toNat < 0x6000 then selectHigh v s
    else { s with bankingMode := v.extractLsb' 0 1 }
  else s

/-- One byte of the OAM-DMA burst (R110). -/
def dmaByte (v : Byte) (s : State) (i : Nat) : State :=
  { s with oam := s.oam.write i (memRead s (word v 0x00#8 + BitVec.ofNat 16 i)) }

/-- The OAM-DMA copy (R110): i from 0 to 159 in ascending order, straight into OAM (R111). -/
def oamDma (v : Byte) (s : State) : State := (List.range Config.oamSize).foldl (dmaByte v) s

/-- Writing a device register (R100). LY is read-only (10_state.md R58). -/
def writeIo (r : IoReg) (v : Byte) (s : State) : State :=
  match r with
  | .joyp => { s with sel := v.extractLsb' 4 2 }
  | .div => { s with div := 0x00#8, divAcc := 0 }
  | .tima => { s with tima := v }
  | .tma => { s with tma := v }
  | .tac => { s with tac := v.extractLsb' 0 3 }
  | .ifr => { s with ifReg := v.extractLsb' 0 5 }
  | .lcdc => { s with lcdc := v }
  | .stat => { s with statEn := v.extractLsb' 3 4 }
  | .scy => { s with scy := v }
  | .scx => { s with scx := v }
  | .ly => s
  | .lyc => coincidenceUpdate { s with lyc := v }
  | .dma => oamDma v { s with dmaLast := v }
  | .bgp => { s with bgp := v }
  | .obp0 => { s with obp0 := v }
  | .obp1 => { s with obp1 := v }
  | .wy => { s with wy := v }
  | .wx => { s with wx := v }
  | .boot => if v = 0x00#8 then s else { s with bootMapped := false }

/-- `MemWrite(addr, 1, v)` (R81): the write action of R82's row; nothing where it says discard. -/
def memWrite (s : State) (addr : Word) (v : Byte) : State :=
  match busTarget s addr with
  | .boot _ => cartWrite addr v s
  | .rom _ => cartWrite addr v s
  | .vram i => { s with vram := s.vram.write i v }
  | .eram i => { s with eram := s.eram.write i v }
  | .eramDisabled => s
  | .wram i => { s with wram := s.wram.write i v }
  | .oam i => { s with oam := s.oam.write i v }
  | .unusable => s
  | .io r => writeIo r v s
  | .ioUnmapped => s
  | .hram i => { s with hram := s.hram.write i v }
  | .ie => { s with ieReg := v.extractLsb' 0 5 }

/-- `MemRead16(addr)` (00_scope.md R11): the low byte at the lower address. -/
def memRead16 (s : State) (addr : Word) : Word := word (memRead s (addr + 1)) (memRead s addr)

/-- `MemWrite16(addr, w)` (00_scope.md R11): the low byte first, at the lower address. -/
def memWrite16 (s : State) (addr w : Word) : State :=
  memWrite (memWrite s addr (lo w)) (addr + 1) (hi w)

/-! ## The stack -/

/-- `push16(w)` (40_loads.md R226): the high byte first, at the higher address. With SP = 0xFF10 the high byte goes to 0xFF0F,
where R423's corner case (a) says the low byte does: DESIGN CHOICE, unsafe (log 20). -/
def push16 (w : Word) (s : State) : State :=
  let s1 := { s with sp := s.sp - 1 }
  let s2 := memWrite s1 s1.sp (hi w)
  let s3 := { s2 with sp := s2.sp - 1 }
  memWrite s3 s3.sp (lo w)

/-- The word `pop16()` returns (40_loads.md R227). -/
def popValue (s : State) : Word := word (memRead s (s.sp + 1)) (memRead s s.sp)

/-- What `pop16()` does to the state (40_loads.md R227): SP is 2 more. -/
def popped (s : State) : State := { s with sp := s.sp + 1 + 1 }

/-! ## Taking an exception or an interrupt, and returning -/

/-- `raise DecodeError(pc, byte)` (45_system.md R396): PC goes back to the byte's address and cpu_mode keeps the address and
the byte. There is no handler (60_exceptions.md R510). -/
def raiseDecodeError (pc0 : Word) (byte : Byte) (s : State) : State :=
  { s with pc := pc0, cpuMode := .faulted .decodeError pc0 byte }

/-- `dispatch()` of a chosen source (60_exceptions.md R423), in the source's order. Its push is `push16` for every SP; R423's
corner case (a) differs from it at SP = 0xFF10 (log 20). -/
def dispatch (i : IrqSource) (s : State) : State :=
  let s1 := push16 s.pc s
  let s2 := { s1 with ime := false, eiPending := false }
  let s3 := clearRequest i s2
  { s3 with pc := irqVector i }

/-- The return from an interrupt handler (44_control.md R369): PC is popped and IME is set at once. -/
def returnFromInterrupt (s : State) : State :=
  { popped s with pc := popValue s, ime := true, eiPending := false }

/-! ## Ends of a meaning -/

/-- PC moves past the instruction's bytes (10_state.md R35). -/
def advance (len : Nat) (s : State) : State := { s with pc := s.pc + BitVec.ofNat 16 len }

/-- The instruction completes and costs `cyc` cycles (70_reset_and_hazards.md R553). -/
def retire (cyc : Nat) (s : State) : Result := .next { s with cycles := s.cycles + cyc }

end Sys2Proof.Machine
end

