-- ==== Sys2Proof/Machine/Joypad.lean ====
section
/-! DEFINITION. The host's key events on the input matrix, 60_exceptions.md R525 (10_state.md R66). -/

namespace Sys2Proof.Machine

/-- A row of the input matrix. -/
def State.row (s : State) : KeyRow → BitVec 4
  | .dir => s.dirRow
  | .act => s.actRow

/-- Write a row of the input matrix. -/
def State.setRow (s : State) (row : KeyRow) (v : BitVec 4) : State :=
  match row with
  | .dir => { s with dirRow := v }
  | .act => { s with actRow := v }

/-- A Stopped machine runs again (R525). -/
def wakeFromStop (s : State) : State :=
  if s.cpuMode = .stopped then { s with cpuMode := .running } else s

/-- `key_down(row, k)` (R525). -/
def keyDown (row : KeyRow) (k : Fin 4) (s : State) : State :=
  let old := (s.row row).getLsbD k
  let s1 := s.setRow row (s.row row &&& ~~~(1#4 <<< k.val))
  let s2 := if old then request .joypad s1 else s1
  wakeFromStop s2

/-- `key_up(row, k)` (R525). -/
def keyUp (row : KeyRow) (k : Fin 4) (s : State) : State := s.setRow row (s.row row ||| (1#4 <<< k.val))

/-- One key event. -/
def applyKeyEvent (s : State) : KeyEvent → State
  | .down row k => keyDown row k s
  | .up row k => keyUp row k s

/-- The host's batch before this step takes effect and leaves the schedule (60_exceptions.md R530; log 5). -/
def applyHostEvents (s : State) : State :=
  match s.hostEvents with
  | [] => s
  | batch :: later => batch.foldl applyKeyEvent { s with hostEvents := later }

end Sys2Proof.Machine
end

