-- ==== Sys2Proof/Machine/Render.lean ====
section
/-! DEFINITION. The scanline renderer, 60_exceptions.md R480 to R485: the tile cache and the object table as functions of
VRAM and OAM (10_state.md R63, R64; log 10), the background pass, the sprite pass and their composition, pixel by pixel. -/

namespace Sys2Proof.Machine

/-- The 2-bit pixel `tile(t, row, x)` of the tile cache (10_state.md R63). -/
def tilePixel (s : State) (t row x : Nat) : BitVec 2 :=
  let high := (s.vram.read (16 * t + 2 * row + 1)).getLsbD (7 - x)
  let low := (s.vram.read (16 * t + 2 * row)).getLsbD (7 - x)
  BitVec.ofBool high ++ BitVec.ofBool low

/-- The shade of colour index ci in a palette: P[2ci+1 : 2ci] (10_state.md R61). -/
def shade (palette : Byte) (ci : BitVec 2) : BitVec 2 := palette.extractLsb' (2 * ci.toNat) 2

/-! ## Background -/

/-- The tilemap's VRAM offset (R481). -/
def bgMapBase (s : State) : Nat := if s.lcdc.getLsbD 3 then 0x1C00 else 0x1800

/-- The cache tile a tilemap entry names (R481, R482). -/
def bgTile (s : State) (idx : Byte) : Nat :=
  if s.lcdc.getLsbD 4 then idx.toNat else if idx.toNat < 128 then idx.toNat + 256 else idx.toNat

/-- The background colour index `bg_ci[x]` of line ly (R481). -/
def bgIndex (s : State) (ly x : Nat) : BitVec 2 :=
  if s.lcdc.getLsbD 0 then
    let yy := (s.scy.toNat + ly) % 256
    let xx := (s.scx.toNat + x) % 256
    let idx := s.vram.read (bgMapBase s + 32 * (yy / 8) + xx / 8)
    tilePixel s (bgTile s idx) (yy % 8) (xx % 8)
  else 0#2

/-- The background shade of a pixel (R481); shade 0 when the background is off. -/
def bgShade (s : State) (ly x : Nat) : BitVec 2 :=
  if s.lcdc.getLsbD 0 then shade s.bgp (bgIndex s ly x) else 0#2

/-! ## Sprites -/

/-- One entry of the object table (10_state.md R64). -/
structure Sprite where
  y : Byte
  x : Byte
  tile : Byte
  attr : Byte
  deriving DecidableEq, Repr

/-- Entry i of the object table, a view of OAM (10_state.md R64). -/
def spriteAt (s : State) (i : Nat) : Sprite :=
  { y := s.oam.read (4 * i), x := s.oam.read (4 * i + 1), tile := s.oam.read (4 * i + 2), attr := s.oam.read (4 * i + 3) }

/-- The sprite height h (R483). -/
def spriteHeight (s : State) : Nat := if s.lcdc.getLsbD 2 then 16 else 8

/-- `top ≤ ly < top + h` with top = y − 16, as integers (R483). -/
def onLine (s : State) (ly : Nat) (sp : Sprite) : Bool :=
  decide (sp.y.toNat ≤ ly + 16) && decide (ly + 16 < sp.y.toNat + spriteHeight s)

/-- The sprites selected for a line: the first ten entries that overlap it, in OAM order; none when sprites are off (R483). -/
def selectedSprites (s : State) (ly : Nat) : List Sprite :=
  if s.lcdc.getLsbD 1 then (((List.range 40).map (spriteAt s)).filter (onLine s ly)).take 10 else []

/-- `left ≤ x < left + 8` with left = x_i − 8, as integers (R484). -/
def coversColumn (x : Nat) (sp : Sprite) : Bool := decide (sp.x.toNat ≤ x + 8) && decide (x < sp.x.toNat)

/-- The colour index of a sprite that covers the pixel (R484). -/
def spriteIndex (s : State) (ly x : Nat) (sp : Sprite) : BitVec 2 :=
  let h := spriteHeight s
  let r0 := ly + 16 - sp.y.toNat
  let r := if sp.attr.getLsbD 6 then h - 1 - r0 else r0
  let c0 := x + 8 - sp.x.toNat
  let c := if sp.attr.getLsbD 5 then 7 - c0 else c0
  let tno := if h = 16 then (sp.tile &&& 0xFE#8).toNat + r / 8 else sp.tile.toNat
  tilePixel s tno (r % 8) c

/-- Put a sprite before the first of a list whose x is not smaller than its own (R485: by x, then by OAM index). -/
def insertByX (sp : Sprite) : List Sprite → List Sprite
  | [] => [sp]
  | q :: rest => if sp.x.toNat ≤ q.x.toNat then sp :: q :: rest else q :: insertByX sp rest

/-- A list of sprites in OAM order, ordered by x ascending and then by OAM index ascending (R485). -/
def orderByX (sprites : List Sprite) : List Sprite := sprites.foldr insertByX []

/-- The winning sprite of a pixel: the first in R485's order that covers it with a colour index other than 0. -/
def winner (s : State) (ly x : Nat) : Option Sprite :=
  (orderByX (selectedSprites s ly)).find? fun sp => coversColumn x sp && (spriteIndex s ly x sp != 0#2)

/-- The palette of a sprite (R485). -/
def spritePalette (s : State) (sp : Sprite) : Byte := if sp.attr.getLsbD 4 then s.obp1 else s.obp0

/-- The shade of pixel x of line ly: the background and the winning sprite composed (R481, R485). -/
def pixelShade (s : State) (ly x : Nat) : BitVec 2 :=
  match winner s ly x with
  | none => bgShade s ly x
  | some sp =>
    if sp.attr.getLsbD 7 && (bgIndex s ly x != 0#2) then bgShade s ly x
    else shade (spritePalette s sp) (spriteIndex s ly x sp)

/-- The 160 pixels of a line. -/
def lineShades (s : State) (ly : Nat) : Vector (BitVec 2) 160 :=
  Vector.mk ((List.range 160).map (pixelShade s ly)).toArray (by simp)

/-- `render_line(ly)` (R480): it writes line ly of the frame and nothing else. A line that is no line of the frame is not
written (log 13). -/
def renderLine (ly : Nat) (s : State) : State :=
  { s with frame := s.frame.setIfInBounds ly (lineShades s ly) }

end Sys2Proof.Machine
end

