-- ==== Sys2Proof/Machine/Ppu.lean ====
section
/-! DEFINITION. The mode machine of the pixel processor, 60_exceptions.md R460 to R467. -/

namespace Sys2Proof.Machine

/-- The cycles a mode lasts (R460). -/
def modeLimit : PpuMode → Nat
  | .oamScan => 80
  | .drawLine => 172
  | .hblank => 204
  | .vblank => 456

/-- Leaving OAMScan (R460). -/
def leaveOamScan (s : State) : State := { s with ppuMode := .drawLine }

/-- Leaving DrawLine (R460): the line is rendered, then HBlank begins and STAT[3] may request LCDStat. -/
def leaveDrawLine (s : State) : State :=
  let s1 := { renderLine s.ly.toNat s with ppuMode := .hblank }
  if s1.statEn.getLsbD 0 then request .lcdStat s1 else s1

/-- Leaving HBlank (R460): the next line, and at line 144 VBlank with its requests. -/
def leaveHblank (s : State) : State :=
  let s1 := coincidenceUpdate { s with ly := s.ly + 1 }
  if s1.ly = 144#8 then
    let s2 := request .vblank { s1 with ppuMode := .vblank }
    if s2.statEn.getLsbD 1 then request .lcdStat s2 else s2
  else { s1 with ppuMode := .oamScan }

/-- Leaving a VBlank line (R460): after line 153 the frame starts again. -/
def leaveVblank (s : State) : State :=
  if s.ly.toNat + 1 > 153 then coincidenceUpdate { s with ly := 0#8, ppuMode := .oamScan }
  else coincidenceUpdate { s with ly := s.ly + 1 }

/-- One transition of R460, the mode's cycles taken off mode_clock. -/
def ppuTransition (s : State) : State :=
  let s1 := { s with modeClock := s.modeClock - modeLimit s.ppuMode }
  match s.ppuMode with
  | .oamScan => leaveOamScan s1
  | .drawLine => leaveDrawLine s1
  | .hblank => leaveHblank s1
  | .vblank => leaveVblank s1

/-- The loop of R460, for at most `fuel` transitions. -/
def ppuLoop : Nat → State → State
  | 0, s => s
  | fuel + 1, s => if modeLimit s.ppuMode ≤ s.modeClock then ppuLoop fuel (ppuTransition s) else s

/-- `PixelProcessor.step(c)` (R460, R466). A transition takes at least 80 cycles off mode_clock, so the loop's bound is never
reached (log 11). -/
def ppuStep (cyc : Nat) (s : State) : State :=
  if s.lcdc.getLsbD 7 then
    ppuLoop ((s.modeClock + cyc) / 80 + 1) { s with modeClock := s.modeClock + cyc }
  else s

end Sys2Proof.Machine
end

