-- ==== Sys2Proof/Machine/Timer.lean ====
section
/-! DEFINITION. The timer, 60_exceptions.md R450 to R453. -/

namespace Sys2Proof.Machine

/-- `threshold(s)` (R451). -/
def timaThreshold (tac : BitVec 3) : Nat :=
  match tac.toNat % 4 with
  | 0 => 1024
  | 1 => 16
  | 2 => 64
  | _ => 256

/-- One TIMA increment (R450, R452): an overflow reloads TMA and requests the Timer interrupt. -/
def timaIncrement (s : State) : State :=
  if s.tima = 0xFF#8 then request .timer { s with tima := s.tma } else { s with tima := s.tima + 1 }

/-- TIMA increments, one after another. -/
def timaIncrements : Nat → State → State
  | 0, s => s
  | k + 1, s => timaIncrements k (timaIncrement s)

/-- The DIV half of R450: its while loop runs ⌊(div_acc + c) / 256⌋ times (log 11). -/
def divTick (cyc : Nat) (s : State) : State :=
  { s with div := s.div + BitVec.ofNat 8 ((s.divAcc + cyc) / Config.divPeriod)
           divAcc := (s.divAcc + cyc) % Config.divPeriod }

/-- The TIMA half of R450: while TAC[2] = 1 its loop runs ⌊(tima_acc + c) / threshold⌋ times (log 11). -/
def timaTick (cyc : Nat) (s : State) : State :=
  if s.tac.getLsbD 2 then
    timaIncrements ((s.timaAcc + cyc) / timaThreshold s.tac)
      { s with timaAcc := (s.timaAcc + cyc) % timaThreshold s.tac }
  else s

/-- `Timer.tick(c)` (R450). -/
def timerTick (cyc : Nat) (s : State) : State := timaTick cyc (divTick cyc s)

end Sys2Proof.Machine
end

