-- ==== Sys2Proof/Machine/Cpu.lean ====
section
/-! DEFINITION. What the system step does around the instruction it runs: 60_exceptions.md R420 to R423, R440 to R442, R511;
and the placing of an instruction's bytes where the next fetch reads them. -/

namespace Sys2Proof.Machine

/-- `wake()` (R441). -/
def wakes (s : State) : Bool :=
  if s.ime then decide (s.ieReg &&& s.ifReg ≠ 0#5)
  else if s.haltWakeNeedsIe then decide (s.ieReg &&& s.ifReg ≠ 0#5)
  else decide (s.ifReg ≠ 0#5)

/-- The step before this one ran EI, and this machine lets no dispatch come between EI and the next instruction
(70_reset_and_hazards.md R551). With IME false before EI there is none in any case; with IME already true R551 and R422 differ,
and `Config.eiHoldsDispatch`, a free value, stands for either (log 21). -/
def heldByEi (s : State) : Bool := s.eiPending && Config.eiHoldsDispatch

/-- The interrupt check before the fetch (R421, R422, 70_reset_and_hazards.md R551): with IME, a pending enabled source and no EI
that holds it back, dispatch and 20 cycles. -/
def checkInterrupts (s : State) : State :=
  if s.ime then
    match pendingIrq s with
    | some i =>
      if heldByEi s then s
      else
        let s1 := dispatch i s
        { s1 with cycles := s1.cycles + Config.dispatchCycles }
    | none => s
  else s

/-- What a step comes to before its fetch: no step at all, an idle step, or a fetch from a state. -/
inductive StepStart where
  | noStep (r : Fault)
  | idle (s : State)
  | fetch (s : State)
  deriving DecidableEq, Repr

/-- The head of `CPU.step()` (R421): the mode match and the interrupt check. -/
def cpuStart (s : State) : StepStart :=
  match s.cpuMode with
  | .faulted _ pc byte => .noStep (.decodeErrorFaulted pc byte)
  | .stopped => .idle { s with cycles := Config.idleCycles }
  | .halted =>
    if wakes s then .fetch (checkInterrupts { s with cpuMode := .running, cycles := 0 })
    else .idle { s with cycles := Config.idleCycles }
  | .running => .fetch (checkInterrupts { s with cycles := 0 })

/-- The instruction at PC (R421, 30_encoding.md R151). Reads have no effect (20_memory.md R105), so reading its bytes before
its execution, and bytes past its end, changes nothing (log 9). -/
def fetchInstr (s : State) : Instr :=
  decodeBytes (memRead s s.pc) (memRead s (s.pc + 1)) (memRead s (s.pc + 2))

/-- The end of `CPU.step()` after the instruction (R421): a pending EI takes effect unless the instruction is EI itself or
raised DecodeError. -/
def eiLatch (i : Instr) (s : State) : State :=
  match i with
  | .ei => s
  | .undefined _ => s
  | _ => if s.eiPending then { s with ime := true, eiPending := false } else s

/-- The devices take the step's cycles (R420): the pixel processor, then the timer. -/
def tickDevices (s : State) : State := timerTick s.cycles (ppuStep s.cycles s)

/-- The end of a step whose instruction answered a result. -/
def finishStep (i : Instr) : Result → Result
  | .next s => .next (tickDevices (eiLatch i s))
  | .fault r => .fault r
  | .refused r => .refused r

/-! ## Placing an instruction -/

/-- Put a byte where a target's reads come from; a target that is no storage is left alone (log 12). -/
def placeAt (s : State) (v : Byte) : BusTarget → State
  | .boot i => { s with boot := s.boot.map fun m => m.write i v }
  | .rom i => { s with rom := s.rom.write i v }
  | .vram i => { s with vram := s.vram.write i v }
  | .eram i => { s with eram := s.eram.write i v }
  | .wram i => { s with wram := s.wram.write i v }
  | .oam i => { s with oam := s.oam.write i v }
  | .hram i => { s with hram := s.hram.write i v }
  | .eramDisabled => s
  | .unusable => s
  | .io _ => s
  | .ioUnmapped => s
  | .ie => s

/-- Put a byte where a read of an address comes from. -/
def placeByte (s : State) (addr : Word) (v : Byte) : State := placeAt s v (busTarget s addr)

/-- Make the next step fetch at PC: a running machine, no key event before the step, no dispatch, whatever the free value of log 21
(log 12). -/
def readyToFetch (s : State) : State :=
  { s with cpuMode := .running, hostEvents := [], ime := s.ime && (pendingIrq s).isNone }

/-- The three bytes of a table word at PC, PC + 1 and PC + 2. -/
def placeInstr (s : State) (bytes : Byte × Byte × Byte) : State :=
  placeByte (placeByte (placeByte s s.pc bytes.1) (s.pc + 1) bytes.2.1) (s.pc + 2) bytes.2.2

end Sys2Proof.Machine
end

