-- ==== Sys2Proof/Machine/Flags.lean ====
section
/-! DEFINITION. The flags (10_state.md R32, R33) and every result and flag computation: the 8-bit ALU functions of
41_alu8.md R245 to R248 and R278, the 16-bit ones of 42_alu16.md R302 to R304, the rotates and shifts of
43_rotate_shift_bit.md R320 to R339, and the conditions of 44_control.md R359. -/

namespace Sys2Proof.Machine

/-- The four flags. -/
structure Flags where
  z : Bool
  n : Bool
  h : Bool
  c : Bool
  deriving DecidableEq, Repr

/-- F with the flags at Z = F[7], N = F[6], H = F[5], C = F[4] and F[3:0] = 0 (R32). -/
def packFlags (fl : Flags) : Byte :=
  BitVec.ofBool fl.z ++ BitVec.ofBool fl.n ++ BitVec.ofBool fl.h ++ BitVec.ofBool fl.c ++ 0x0#4

/-- The flags as they stand. -/
def State.flags (s : State) : Flags :=
  { z := s.f.getLsbD 7, n := s.f.getLsbD 6, h := s.f.getLsbD 5, c := s.f.getLsbD 4 }

/-- Write all four flags. -/
def State.setFlags (s : State) (fl : Flags) : State := { s with f := packFlags fl }

/-- A result with the flags it leaves. -/
structure AluOut where
  value : Byte
  flags : Flags
  deriving DecidableEq, Repr

/-! ## 8-bit ALU functions -/

/-- `alu_add(a, b, c)` (R245). -/
def aluAdd (a b : Byte) (c : Bool) : AluOut :=
  let sum := a.toNat + b.toNat + c.toNat
  let r := BitVec.ofNat 8 sum
  { value := r
    flags :=
      { z := r == 0x00#8
        n := false
        h := decide ((a &&& 0x0F#8).toNat + (b &&& 0x0F#8).toNat + c.toNat > 0xF)
        c := decide (sum > 0xFF) } }

/-- `alu_sub(a, b, c)` (R246). -/
def aluSub (a b : Byte) (c : Bool) : AluOut :=
  let r := BitVec.ofInt 8 ((a.toNat : Int) - b.toNat - c.toNat)
  { value := r
    flags :=
      { z := r == 0x00#8
        n := true
        h := decide ((a &&& 0x0F#8).toNat < (b &&& 0x0F#8).toNat + c.toNat)
        c := decide (a.toNat < b.toNat + c.toNat) } }

/-- `alu_and(a, b)` (R247). -/
def aluAnd (a b : Byte) : AluOut :=
  { value := a &&& b, flags := { z := (a &&& b) == 0x00#8, n := false, h := true, c := false } }

/-- `alu_or(a, b)` (R247). -/
def aluOr (a b : Byte) : AluOut :=
  { value := a ||| b, flags := { z := (a ||| b) == 0x00#8, n := false, h := false, c := false } }

/-- `alu_xor(a, b)` (R247). -/
def aluXor (a b : Byte) : AluOut :=
  { value := a ^^^ b, flags := { z := (a ^^^ b) == 0x00#8, n := false, h := false, c := false } }

/-- `alu_inc(v)` (R248); `old` gives the C that stays. -/
def aluInc (v : Byte) (old : Flags) : AluOut :=
  { value := v + 1, flags := { z := (v + 1) == 0x00#8, n := false, h := (v &&& 0x0F#8) == 0x0F#8, c := old.c } }

/-- `alu_dec(v)` (R248); `old` gives the C that stays. -/
def aluDec (v : Byte) (old : Flags) : AluOut :=
  { value := v - 1, flags := { z := (v - 1) == 0x00#8, n := true, h := (v &&& 0x0F#8) == 0x00#8, c := old.c } }

/-- The decimal correction of R278. -/
def aluDaa (a : Byte) (old : Flags) : AluOut :=
  if old.n then
    let adj := (if old.c then 0x60#8 else 0x00#8) ||| (if old.h then 0x06#8 else 0x00#8)
    let r := a - adj
    { value := r, flags := { z := r == 0x00#8, n := true, h := false, c := old.c } }
  else
    let high := old.c || decide (a.toNat > 0x99)
    let low := old.h || decide ((a &&& 0x0F#8).toNat > 0x09)
    let adj := (if high then 0x60#8 else 0x00#8) ||| (if low then 0x06#8 else 0x00#8)
    let r := a + adj
    { value := r, flags := { z := r == 0x00#8, n := false, h := false, c := high } }

/-! ## 16-bit sums -/

/-- The flags of ADD HL,rr (42_alu16.md R302): carries out of bits 11 and 15, Z unchanged. -/
def addHlFlags (a b : Word) (old : Flags) : Flags :=
  { z := old.z
    n := false
    h := decide ((a &&& 0x0FFF#16).toNat + (b &&& 0x0FFF#16).toNat > 0x0FFF)
    c := decide (a.toNat + b.toNat > 0xFFFF) }

/-- The flags of ADD SP,e and LD HL,SP+e (42_alu16.md R303, R304): the unsigned low-byte sum. -/
def spPlusFlags (sp : Word) (e : Byte) : Flags :=
  { z := false
    n := false
    h := decide ((sp &&& 0x000F#16).toNat + (e &&& 0x0F#8).toNat > 0x0F)
    c := decide ((sp &&& 0x00FF#16).toNat + e.toNat > 0xFF) }

/-! ## Rotates and shifts -/

/-- The result of a rotate or shift (43_rotate_shift_bit.md R324 to R339); `c` is the C flag before. -/
def rotValue (op : RotOp) (v : Byte) (c : Bool) : Byte :=
  match op with
  | .rlc => (v <<< 1) ||| bit0 (v.getLsbD 7)
  | .rrc => (v >>> 1) ||| bit7 (v.getLsbD 0)
  | .rl => (v <<< 1) ||| bit0 c
  | .rr => (v >>> 1) ||| bit7 c
  | .sla => v <<< 1
  | .sra => (v >>> 1) ||| (v &&& 0x80#8)
  | .swap => (v <<< 4) ||| (v >>> 4)
  | .srl => v >>> 1

/-- The bit a rotate or shift moves out (SWAP: 0). -/
def rotCarry (op : RotOp) (v : Byte) : Bool :=
  match op with
  | .rlc => v.getLsbD 7
  | .rrc => v.getLsbD 0
  | .rl => v.getLsbD 7
  | .rr => v.getLsbD 0
  | .sla => v.getLsbD 7
  | .sra => v.getLsbD 0
  | .swap => false
  | .srl => v.getLsbD 0

/-- A CB rotate or shift: Z from the result, N = 0, H = 0, C the bit moved out (R324 to R339). -/
def aluRot (op : RotOp) (v : Byte) (c : Bool) : AluOut :=
  { value := rotValue op v c
    flags := { z := rotValue op v c == 0x00#8, n := false, h := false, c := rotCarry op v } }

/-- An accumulator rotate: as the CB kind, but Z = 0 always (R320 to R323). -/
def aluRotA (op : RotOp) (v : Byte) (c : Bool) : AluOut :=
  { value := rotValue op v c, flags := { z := false, n := false, h := false, c := rotCarry op v } }

/-- The flags of BIT (R340): Z the complement of the tested bit, N = 0, H = 1, C unchanged. -/
def bitFlags (bit : Nat) (v : Byte) (old : Flags) : Flags :=
  { z := !v.getLsbD bit, n := false, h := true, c := old.c }

/-- The result of RES (R342). -/
def resValue (bit : Nat) (v : Byte) : Byte := v &&& ~~~(0x01#8 <<< bit)

/-- The result of SET (R344). -/
def setValue (bit : Nat) (v : Byte) : Byte := v ||| (0x01#8 <<< bit)

/-! ## Conditions -/

/-- `cond(cc)` (44_control.md R359). -/
def condHolds (s : State) : Cond → Bool
  | .nz => !s.flags.z
  | .z => s.flags.z
  | .nc => !s.flags.c
  | .c => s.flags.c

end Sys2Proof.Machine
end

