-- ==== Sys2Proof/Machine/Operands.lean ====
section
/-! DEFINITION. The operand forms: the 8-bit source of 41_alu8.md (a register, the byte at HL, an immediate), the 8-bit
operand of 43_rotate_shift_bit.md R319 that is read and written, and the selector codes of 30_encoding.md R142, R145. Every
form of this machine's addressing (30_encoding.md R147) is an address computed here or in Bits and one bus access. -/

namespace Sys2Proof.Machine

/-- Read an 8-bit source operand. -/
def readSrc (s : State) : Src8 → Byte
  | .reg r => s.reg r
  | .indHl => memRead s s.hl
  | .imm n => n

/-- The length of an ALU instruction with this operand form. -/
def srcLength : Src8 → Nat
  | .reg _ => 1
  | .indHl => 1
  | .imm _ => 2

/-- The cycles of an ALU instruction with this operand form (R553). -/
def srcCycles : Src8 → Nat
  | .reg _ => 4
  | .indHl => 8
  | .imm _ => 8

/-- `get` of R319. -/
def readLoc (s : State) : Loc8 → Byte
  | .reg r => s.reg r
  | .indHl => memRead s s.hl

/-- `put(v)` of R319: for (HL) one bus write at HL. -/
def writeLoc (s : State) (loc : Loc8) (v : Byte) : State :=
  match loc with
  | .reg r => s.setReg r v
  | .indHl => memWrite s s.hl v

/-- The operand of code z (30_encoding.md R142). -/
def locOfCode : Nat → Loc8
  | 0 => .reg .b
  | 1 => .reg .c
  | 2 => .reg .d
  | 3 => .reg .e
  | 4 => .reg .h
  | 5 => .reg .l
  | 6 => .indHl
  | _ => .reg .a

/-- The rotate or shift of code y (30_encoding.md R145). -/
def rotOfCode : Nat → RotOp
  | 0 => .rlc
  | 1 => .rrc
  | 2 => .rl
  | 3 => .rr
  | 4 => .sla
  | 5 => .sra
  | 6 => .swap
  | _ => .srl

end Sys2Proof.Machine
end

