-- ==== Sys2Proof/Machine/Alu16.lean ====
section
/-! DEFINITION. 16-bit arithmetic, 42_alu16.md R300 to R304. -/

namespace Sys2Proof.Machine

/-- `rr[p] <- rr[p] + 1`, no flag (R300). -/
def incPair (r : Reg16) (s : State) : Result := retire 8 (advance 1 (s.setReg16 r (s.reg16 r + 1)))

/-- `rr[p] <- rr[p] - 1`, no flag (R301). -/
def decPair (r : Reg16) (s : State) : Result := retire 8 (advance 1 (s.setReg16 r (s.reg16 r - 1)))

/-- ADD HL,rr (R302). -/
def addHl (r : Reg16) (s : State) : Result :=
  retire 8 (advance 1 ((s.setHl (s.hl + s.reg16 r)).setFlags (addHlFlags s.hl (s.reg16 r) s.flags)))

/-- ADD SP,e (R303). -/
def exec_add_sp_e (e : Byte) (s : State) : Result :=
  retire 16 (advance 2 ({ s with sp := s.sp + sext16 e }.setFlags (spPlusFlags s.sp e)))

/-- LD HL,SP+e (R304). -/
def exec_ld_hl_spE (e : Byte) (s : State) : Result :=
  retire 12 (advance 2 ((s.setHl (s.sp + sext16 e)).setFlags (spPlusFlags s.sp e)))

/-- INC BC (R300). -/
def exec_inc_bc (s : State) : Result :=
  incPair .bc s

/-- ADD HL,BC (R302). -/
def exec_add_hl_bc (s : State) : Result :=
  addHl .bc s

/-- DEC BC (R301). -/
def exec_dec_bc (s : State) : Result :=
  decPair .bc s

/-- INC DE (R300). -/
def exec_inc_de (s : State) : Result :=
  incPair .de s

/-- ADD HL,DE (R302). -/
def exec_add_hl_de (s : State) : Result :=
  addHl .de s

/-- DEC DE (R301). -/
def exec_dec_de (s : State) : Result :=
  decPair .de s

/-- INC HL (R300). -/
def exec_inc_hl (s : State) : Result :=
  incPair .hl s

/-- ADD HL,HL (R302). -/
def exec_add_hl_hl (s : State) : Result :=
  addHl .hl s

/-- DEC HL (R301). -/
def exec_dec_hl (s : State) : Result :=
  decPair .hl s

/-- INC SP (R300). -/
def exec_inc_sp (s : State) : Result :=
  incPair .sp s

/-- ADD HL,SP (R302). -/
def exec_add_hl_sp (s : State) : Result :=
  addHl .sp s

/-- DEC SP (R301). -/
def exec_dec_sp (s : State) : Result :=
  decPair .sp s

end Sys2Proof.Machine
end

