-- ==== Sys2Proof/Machine/Alu8.lean ====
section
/-! DEFINITION. 8-bit arithmetic and logic, 41_alu8.md R250 to R281. -/

namespace Sys2Proof.Machine

/-- A result and its flags go to A and F. -/
def aluTo (out : AluOut) (len cyc : Nat) (s : State) : Result :=
  retire cyc (advance len ({ s with a := out.value }.setFlags out.flags))

/-- Only the flags are written. -/
def aluFlags (fl : Flags) (len cyc : Nat) (s : State) : Result := retire cyc (advance len (s.setFlags fl))

/-- ADD A,x (R250 to R252). -/
def addA (src : Src8) (s : State) : Result :=
  aluTo (aluAdd s.a (readSrc s src) false) (srcLength src) (srcCycles src) s

/-- ADC A,x (R253 to R255). -/
def adcA (src : Src8) (s : State) : Result :=
  aluTo (aluAdd s.a (readSrc s src) s.flags.c) (srcLength src) (srcCycles src) s

/-- SUB x (R256 to R258). -/
def subA (src : Src8) (s : State) : Result :=
  aluTo (aluSub s.a (readSrc s src) false) (srcLength src) (srcCycles src) s

/-- SBC A,x (R259 to R261). -/
def sbcA (src : Src8) (s : State) : Result :=
  aluTo (aluSub s.a (readSrc s src) s.flags.c) (srcLength src) (srcCycles src) s

/-- AND x (R262 to R264). -/
def andA (src : Src8) (s : State) : Result :=
  aluTo (aluAnd s.a (readSrc s src)) (srcLength src) (srcCycles src) s

/-- XOR x (R265 to R267). -/
def xorA (src : Src8) (s : State) : Result :=
  aluTo (aluXor s.a (readSrc s src)) (srcLength src) (srcCycles src) s

/-- OR x (R268 to R270). -/
def orA (src : Src8) (s : State) : Result :=
  aluTo (aluOr s.a (readSrc s src)) (srcLength src) (srcCycles src) s

/-- CP x (R271 to R273): A is not written. -/
def cpA (src : Src8) (s : State) : Result :=
  aluFlags (aluSub s.a (readSrc s src) false).flags (srcLength src) (srcCycles src) s

/-- INC r (R274). -/
def incReg (r : Reg8) (s : State) : Result :=
  let out := aluInc (s.reg r) s.flags
  retire 4 (advance 1 ((s.setReg r out.value).setFlags out.flags))

/-- DEC r (R276). -/
def decReg (r : Reg8) (s : State) : Result :=
  let out := aluDec (s.reg r) s.flags
  retire 4 (advance 1 ((s.setReg r out.value).setFlags out.flags))

/-- INC (HL) (R275): one read, then one write. -/
def incHl (s : State) : Result :=
  let out := aluInc (memRead s s.hl) s.flags
  retire 12 (advance 1 ((memWrite s s.hl out.value).setFlags out.flags))

/-- DEC (HL) (R277): one read, then one write. -/
def decHl (s : State) : Result :=
  let out := aluDec (memRead s s.hl) s.flags
  retire 12 (advance 1 ((memWrite s s.hl out.value).setFlags out.flags))

/-- ADD A,n (R252). -/
def exec_add_a_n (n : Byte) (s : State) : Result :=
  addA (.imm n) s

/-- ADC A,n (R255). -/
def exec_adc_a_n (n : Byte) (s : State) : Result :=
  adcA (.imm n) s

/-- SUB n (R258). -/
def exec_sub_n (n : Byte) (s : State) : Result :=
  subA (.imm n) s

/-- SBC A,n (R261). -/
def exec_sbc_a_n (n : Byte) (s : State) : Result :=
  sbcA (.imm n) s

/-- AND n (R264). -/
def exec_and_n (n : Byte) (s : State) : Result :=
  andA (.imm n) s

/-- XOR n (R267). -/
def exec_xor_n (n : Byte) (s : State) : Result :=
  xorA (.imm n) s

/-- OR n (R270). -/
def exec_or_n (n : Byte) (s : State) : Result :=
  orA (.imm n) s

/-- CP n (R273). -/
def exec_cp_n (n : Byte) (s : State) : Result :=
  cpA (.imm n) s

/-- INC B (R274). -/
def exec_inc_b (s : State) : Result :=
  incReg .b s

/-- DEC B (R276). -/
def exec_dec_b (s : State) : Result :=
  decReg .b s

/-- INC C (R274). -/
def exec_inc_c (s : State) : Result :=
  incReg .c s

/-- DEC C (R276). -/
def exec_dec_c (s : State) : Result :=
  decReg .c s

/-- INC D (R274). -/
def exec_inc_d (s : State) : Result :=
  incReg .d s

/-- DEC D (R276). -/
def exec_dec_d (s : State) : Result :=
  decReg .d s

/-- INC E (R274). -/
def exec_inc_e (s : State) : Result :=
  incReg .e s

/-- DEC E (R276). -/
def exec_dec_e (s : State) : Result :=
  decReg .e s

/-- INC H (R274). -/
def exec_inc_h (s : State) : Result :=
  incReg .h s

/-- DEC H (R276). -/
def exec_dec_h (s : State) : Result :=
  decReg .h s

/-- DAA (R278). -/
def exec_daa (s : State) : Result :=
  aluTo (aluDaa s.a s.flags) 1 4 s

/-- INC L (R274). -/
def exec_inc_l (s : State) : Result :=
  incReg .l s

/-- DEC L (R276). -/
def exec_dec_l (s : State) : Result :=
  decReg .l s

/-- CPL (R279). -/
def exec_cpl (s : State) : Result :=
  aluTo { value := ~~~s.a, flags := { s.flags with n := true, h := true } } 1 4 s

/-- INC (HL) (R275). -/
def exec_inc_indHl (s : State) : Result :=
  incHl s

/-- DEC (HL) (R277). -/
def exec_dec_indHl (s : State) : Result :=
  decHl s

/-- SCF (R280). -/
def exec_scf (s : State) : Result :=
  aluFlags { z := s.flags.z, n := false, h := false, c := true } 1 4 s

/-- INC A (R274). -/
def exec_inc_a (s : State) : Result :=
  incReg .a s

/-- DEC A (R276). -/
def exec_dec_a (s : State) : Result :=
  decReg .a s

/-- CCF (R281). -/
def exec_ccf (s : State) : Result :=
  aluFlags { z := s.flags.z, n := false, h := false, c := !s.flags.c } 1 4 s

/-- ADD A,B (R250). -/
def exec_add_a_b (s : State) : Result :=
  addA (.reg .b) s

/-- ADD A,C (R250). -/
def exec_add_a_c (s : State) : Result :=
  addA (.reg .c) s

/-- ADD A,D (R250). -/
def exec_add_a_d (s : State) : Result :=
  addA (.reg .d) s

/-- ADD A,E (R250). -/
def exec_add_a_e (s : State) : Result :=
  addA (.reg .e) s

/-- ADD A,H (R250). -/
def exec_add_a_h (s : State) : Result :=
  addA (.reg .h) s

/-- ADD A,L (R250). -/
def exec_add_a_l (s : State) : Result :=
  addA (.reg .l) s

/-- ADD A,(HL) (R251). -/
def exec_add_a_indHl (s : State) : Result :=
  addA .indHl s

/-- ADD A,A (R250). -/
def exec_add_a_a (s : State) : Result :=
  addA (.reg .a) s

/-- ADC A,B (R253). -/
def exec_adc_a_b (s : State) : Result :=
  adcA (.reg .b) s

/-- ADC A,C (R253). -/
def exec_adc_a_c (s : State) : Result :=
  adcA (.reg .c) s

/-- ADC A,D (R253). -/
def exec_adc_a_d (s : State) : Result :=
  adcA (.reg .d) s

/-- ADC A,E (R253). -/
def exec_adc_a_e (s : State) : Result :=
  adcA (.reg .e) s

/-- ADC A,H (R253). -/
def exec_adc_a_h (s : State) : Result :=
  adcA (.reg .h) s

/-- ADC A,L (R253). -/
def exec_adc_a_l (s : State) : Result :=
  adcA (.reg .l) s

/-- ADC A,(HL) (R254). -/
def exec_adc_a_indHl (s : State) : Result :=
  adcA .indHl s

/-- ADC A,A (R253). -/
def exec_adc_a_a (s : State) : Result :=
  adcA (.reg .a) s

/-- SUB B (R256). -/
def exec_sub_b (s : State) : Result :=
  subA (.reg .b) s

/-- SUB C (R256). -/
def exec_sub_c (s : State) : Result :=
  subA (.reg .c) s

/-- SUB D (R256). -/
def exec_sub_d (s : State) : Result :=
  subA (.reg .d) s

/-- SUB E (R256). -/
def exec_sub_e (s : State) : Result :=
  subA (.reg .e) s

/-- SUB H (R256). -/
def exec_sub_h (s : State) : Result :=
  subA (.reg .h) s

/-- SUB L (R256). -/
def exec_sub_l (s : State) : Result :=
  subA (.reg .l) s

/-- SUB (HL) (R257). -/
def exec_sub_indHl (s : State) : Result :=
  subA .indHl s

/-- SUB A (R256). -/
def exec_sub_a (s : State) : Result :=
  subA (.reg .a) s

/-- SBC A,B (R259). -/
def exec_sbc_a_b (s : State) : Result :=
  sbcA (.reg .b) s

/-- SBC A,C (R259). -/
def exec_sbc_a_c (s : State) : Result :=
  sbcA (.reg .c) s

/-- SBC A,D (R259). -/
def exec_sbc_a_d (s : State) : Result :=
  sbcA (.reg .d) s

/-- SBC A,E (R259). -/
def exec_sbc_a_e (s : State) : Result :=
  sbcA (.reg .e) s

/-- SBC A,H (R259). -/
def exec_sbc_a_h (s : State) : Result :=
  sbcA (.reg .h) s

/-- SBC A,L (R259). -/
def exec_sbc_a_l (s : State) : Result :=
  sbcA (.reg .l) s

/-- SBC A,(HL) (R260). -/
def exec_sbc_a_indHl (s : State) : Result :=
  sbcA .indHl s

/-- SBC A,A (R259). -/
def exec_sbc_a_a (s : State) : Result :=
  sbcA (.reg .a) s

/-- AND B (R262). -/
def exec_and_b (s : State) : Result :=
  andA (.reg .b) s

/-- AND C (R262). -/
def exec_and_c (s : State) : Result :=
  andA (.reg .c) s

/-- AND D (R262). -/
def exec_and_d (s : State) : Result :=
  andA (.reg .d) s

/-- AND E (R262). -/
def exec_and_e (s : State) : Result :=
  andA (.reg .e) s

/-- AND H (R262). -/
def exec_and_h (s : State) : Result :=
  andA (.reg .h) s

/-- AND L (R262). -/
def exec_and_l (s : State) : Result :=
  andA (.reg .l) s

/-- AND (HL) (R263). -/
def exec_and_indHl (s : State) : Result :=
  andA .indHl s

/-- AND A (R262). -/
def exec_and_a (s : State) : Result :=
  andA (.reg .a) s

/-- XOR B (R265). -/
def exec_xor_b (s : State) : Result :=
  xorA (.reg .b) s

/-- XOR C (R265). -/
def exec_xor_c (s : State) : Result :=
  xorA (.reg .c) s

/-- XOR D (R265). -/
def exec_xor_d (s : State) : Result :=
  xorA (.reg .d) s

/-- XOR E (R265). -/
def exec_xor_e (s : State) : Result :=
  xorA (.reg .e) s

/-- XOR H (R265). -/
def exec_xor_h (s : State) : Result :=
  xorA (.reg .h) s

/-- XOR L (R265). -/
def exec_xor_l (s : State) : Result :=
  xorA (.reg .l) s

/-- XOR (HL) (R266). -/
def exec_xor_indHl (s : State) : Result :=
  xorA .indHl s

/-- XOR A (R265). -/
def exec_xor_a (s : State) : Result :=
  xorA (.reg .a) s

/-- OR B (R268). -/
def exec_or_b (s : State) : Result :=
  orA (.reg .b) s

/-- OR C (R268). -/
def exec_or_c (s : State) : Result :=
  orA (.reg .c) s

/-- OR D (R268). -/
def exec_or_d (s : State) : Result :=
  orA (.reg .d) s

/-- OR E (R268). -/
def exec_or_e (s : State) : Result :=
  orA (.reg .e) s

/-- OR H (R268). -/
def exec_or_h (s : State) : Result :=
  orA (.reg .h) s

/-- OR L (R268). -/
def exec_or_l (s : State) : Result :=
  orA (.reg .l) s

/-- OR (HL) (R269). -/
def exec_or_indHl (s : State) : Result :=
  orA .indHl s

/-- OR A (R268). -/
def exec_or_a (s : State) : Result :=
  orA (.reg .a) s

/-- CP B (R271). -/
def exec_cp_b (s : State) : Result :=
  cpA (.reg .b) s

/-- CP C (R271). -/
def exec_cp_c (s : State) : Result :=
  cpA (.reg .c) s

/-- CP D (R271). -/
def exec_cp_d (s : State) : Result :=
  cpA (.reg .d) s

/-- CP E (R271). -/
def exec_cp_e (s : State) : Result :=
  cpA (.reg .e) s

/-- CP H (R271). -/
def exec_cp_h (s : State) : Result :=
  cpA (.reg .h) s

/-- CP L (R271). -/
def exec_cp_l (s : State) : Result :=
  cpA (.reg .l) s

/-- CP (HL) (R272). -/
def exec_cp_indHl (s : State) : Result :=
  cpA .indHl s

/-- CP A (R271). -/
def exec_cp_a (s : State) : Result :=
  cpA (.reg .a) s

end Sys2Proof.Machine
end

