-- ==== Sys2Proof/Machine/Control.lean ====
section
/-! DEFINITION. Jumps, calls and returns, 44_control.md R360 to R370. None writes a flag. The PC that a jump starts from or a call pushes is
the address after the instruction. -/

namespace Sys2Proof.Machine

/-- JP nn and JP cc,nn (R360, R361). -/
def jumpAbs (taken : Bool) (nn : Word) (cycTaken cycNot : Nat) (s : State) : Result :=
  if taken then retire cycTaken { s with pc := nn } else retire cycNot (advance 3 s)

/-- JR e and JR cc,e (R363, R364). -/
def jumpRel (taken : Bool) (e : Byte) (cycTaken cycNot : Nat) (s : State) : Result :=
  if taken then retire cycTaken { s with pc := s.pc + 2 + sext16 e } else retire cycNot (advance 2 s)

/-- CALL nn and CALL cc,nn (R365, R366). -/
def callAbs (taken : Bool) (nn : Word) (cycTaken cycNot : Nat) (s : State) : Result :=
  if taken then retire cycTaken { push16 (s.pc + 3) s with pc := nn } else retire cycNot (advance 3 s)

/-- RET and RET cc (R367, R368). -/
def returnIf (taken : Bool) (cycTaken cycNot : Nat) (s : State) : Result :=
  if taken then retire cycTaken { popped s with pc := popValue s } else retire cycNot (advance 1 s)

/-- RST t (R370). -/
def restart (t : Word) (s : State) : Result := retire 16 { push16 (s.pc + 1) s with pc := t }

/-- JR e (R363). -/
def exec_jr_e (e : Byte) (s : State) : Result :=
  jumpRel true e 12 8 s

/-- JR NZ,e (R364). -/
def exec_jr_nz_e (e : Byte) (s : State) : Result :=
  jumpRel (condHolds s .nz) e 12 8 s

/-- JR Z,e (R364). -/
def exec_jr_z_e (e : Byte) (s : State) : Result :=
  jumpRel (condHolds s .z) e 12 8 s

/-- JR NC,e (R364). -/
def exec_jr_nc_e (e : Byte) (s : State) : Result :=
  jumpRel (condHolds s .nc) e 12 8 s

/-- JR C,e (R364). -/
def exec_jr_c_e (e : Byte) (s : State) : Result :=
  jumpRel (condHolds s .c) e 12 8 s

/-- JP NZ,nn (R361). -/
def exec_jp_nz_nn (nn : Word) (s : State) : Result :=
  jumpAbs (condHolds s .nz) nn 16 12 s

/-- JP nn (R360). -/
def exec_jp_nn (nn : Word) (s : State) : Result :=
  jumpAbs true nn 16 12 s

/-- CALL NZ,nn (R366). -/
def exec_call_nz_nn (nn : Word) (s : State) : Result :=
  callAbs (condHolds s .nz) nn 24 12 s

/-- JP Z,nn (R361). -/
def exec_jp_z_nn (nn : Word) (s : State) : Result :=
  jumpAbs (condHolds s .z) nn 16 12 s

/-- CALL Z,nn (R366). -/
def exec_call_z_nn (nn : Word) (s : State) : Result :=
  callAbs (condHolds s .z) nn 24 12 s

/-- CALL nn (R365). -/
def exec_call_nn (nn : Word) (s : State) : Result :=
  callAbs true nn 24 12 s

/-- JP NC,nn (R361). -/
def exec_jp_nc_nn (nn : Word) (s : State) : Result :=
  jumpAbs (condHolds s .nc) nn 16 12 s

/-- CALL NC,nn (R366). -/
def exec_call_nc_nn (nn : Word) (s : State) : Result :=
  callAbs (condHolds s .nc) nn 24 12 s

/-- JP C,nn (R361). -/
def exec_jp_c_nn (nn : Word) (s : State) : Result :=
  jumpAbs (condHolds s .c) nn 16 12 s

/-- CALL C,nn (R366). -/
def exec_call_c_nn (nn : Word) (s : State) : Result :=
  callAbs (condHolds s .c) nn 24 12 s

/-- RET NZ (R368). -/
def exec_ret_nz (s : State) : Result :=
  returnIf (condHolds s .nz) 20 8 s

/-- RST 0x00 (R370). -/
def exec_rst_00 (s : State) : Result :=
  restart 0x0000#16 s

/-- RET Z (R368). -/
def exec_ret_z (s : State) : Result :=
  returnIf (condHolds s .z) 20 8 s

/-- RET (R367). -/
def exec_ret (s : State) : Result :=
  returnIf true 16 8 s

/-- RST 0x08 (R370). -/
def exec_rst_08 (s : State) : Result :=
  restart 0x0008#16 s

/-- RET NC (R368). -/
def exec_ret_nc (s : State) : Result :=
  returnIf (condHolds s .nc) 20 8 s

/-- RST 0x10 (R370). -/
def exec_rst_10 (s : State) : Result :=
  restart 0x0010#16 s

/-- RET C (R368). -/
def exec_ret_c (s : State) : Result :=
  returnIf (condHolds s .c) 20 8 s

/-- RETI (R369). -/
def exec_reti (s : State) : Result :=
  retire 16 (returnFromInterrupt s)

/-- RST 0x18 (R370). -/
def exec_rst_18 (s : State) : Result :=
  restart 0x0018#16 s

/-- RST 0x20 (R370). -/
def exec_rst_20 (s : State) : Result :=
  restart 0x0020#16 s

/-- JP HL (R362). -/
def exec_jp_hl (s : State) : Result :=
  retire 4 { s with pc := s.hl }

/-- RST 0x28 (R370). -/
def exec_rst_28 (s : State) : Result :=
  restart 0x0028#16 s

/-- RST 0x30 (R370). -/
def exec_rst_30 (s : State) : Result :=
  restart 0x0030#16 s

/-- RST 0x38 (R370). -/
def exec_rst_38 (s : State) : Result :=
  restart 0x0038#16 s

end Sys2Proof.Machine
end

