-- ==== Sys2Proof/Machine/Loads.lean ====
section
/-! DEFINITION. Loads, stores and stack transfers, 40_loads.md R200 to R230. None writes a flag but POP AF. -/

namespace Sys2Proof.Machine

/-- `r[y] <- r[z]` (R200). -/
def loadRegReg (dst src : Reg8) (s : State) : Result := retire 4 (advance 1 (s.setReg dst (s.reg src)))

/-- `r[y] <- MemRead(HL, 1)` (R201). -/
def loadRegHl (dst : Reg8) (s : State) : Result := retire 8 (advance 1 (s.setReg dst (memRead s s.hl)))

/-- `MemWrite(HL, 1, r[z])` (R202). -/
def storeHlReg (src : Reg8) (s : State) : Result := retire 8 (advance 1 (memWrite s s.hl (s.reg src)))

/-- `n <- fetch8(); r[y] <- n` (R203). -/
def loadRegImm (dst : Reg8) (n : Byte) (s : State) : Result := retire 8 (advance 2 (s.setReg dst n))

/-- `n <- fetch8(); MemWrite(HL, 1, n)` (R204). -/
def storeHlImm (n : Byte) (s : State) : Result := retire 12 (advance 2 (memWrite s s.hl n))

/-- A from the byte at an address (R205, R206, R209, R211, R213). -/
def loadA (len cyc : Nat) (addr : Word) (s : State) : Result :=
  retire cyc (advance len (s.setReg .a (memRead s addr)))

/-- A to the byte at an address (R207, R208, R210, R212, R214). -/
def storeA (len cyc : Nat) (addr : Word) (s : State) : Result := retire cyc (advance len (memWrite s addr s.a))

/-- A from the byte at HL, then HL takes its new value (R215, R216). -/
def loadAThenHl (hl' : Word) (s : State) : Result :=
  retire 8 (advance 1 ((s.setReg .a (memRead s s.hl)).setHl hl'))

/-- A to the byte at HL, then HL takes its new value (R217, R218). -/
def storeAThenHl (hl' : Word) (s : State) : Result := retire 8 (advance 1 ((memWrite s s.hl s.a).setHl hl'))

/-- `nn <- fetch16(); rr[p] <- nn` (R219). -/
def loadPairImm (r : Reg16) (nn : Word) (s : State) : Result := retire 12 (advance 3 (s.setReg16 r nn))

/-- `push16(qq[p])` (R228). -/
def pushPair (q : StackPair) (s : State) : Result := retire 16 (advance 1 (push16 (s.stackPair q) s))

/-- `qq[p] <- pop16()` (R229, R230). -/
def popPair (q : StackPair) (s : State) : Result :=
  retire 12 (advance 1 ((popped s).setStackPair q (popValue s)))

/-- LD BC,nn (R219). -/
def exec_ld_bc_nn (nn : Word) (s : State) : Result :=
  loadPairImm .bc nn s

/-- LD B,n (R203). -/
def exec_ld_b_n (n : Byte) (s : State) : Result :=
  loadRegImm .b n s

/-- LD (nn),SP (R221). -/
def exec_ld_indNn_sp (nn : Word) (s : State) : Result :=
  retire 20 (advance 3 (memWrite16 s nn s.sp))

/-- LD C,n (R203). -/
def exec_ld_c_n (n : Byte) (s : State) : Result :=
  loadRegImm .c n s

/-- LD DE,nn (R219). -/
def exec_ld_de_nn (nn : Word) (s : State) : Result :=
  loadPairImm .de nn s

/-- LD D,n (R203). -/
def exec_ld_d_n (n : Byte) (s : State) : Result :=
  loadRegImm .d n s

/-- LD E,n (R203). -/
def exec_ld_e_n (n : Byte) (s : State) : Result :=
  loadRegImm .e n s

/-- LD HL,nn (R219). -/
def exec_ld_hl_nn (nn : Word) (s : State) : Result :=
  loadPairImm .hl nn s

/-- LD H,n (R203). -/
def exec_ld_h_n (n : Byte) (s : State) : Result :=
  loadRegImm .h n s

/-- LD L,n (R203). -/
def exec_ld_l_n (n : Byte) (s : State) : Result :=
  loadRegImm .l n s

/-- LD SP,nn (R219). -/
def exec_ld_sp_nn (nn : Word) (s : State) : Result :=
  loadPairImm .sp nn s

/-- LD (HL),n (R204). -/
def exec_ld_indHl_n (n : Byte) (s : State) : Result :=
  storeHlImm n s

/-- LD A,n (R203). -/
def exec_ld_a_n (n : Byte) (s : State) : Result :=
  loadRegImm .a n s

/-- LDH (n),A (R212). -/
def exec_ldh_indN_a (n : Byte) (s : State) : Result :=
  storeA 2 12 (zeroPage n) s

/-- LD (nn),A (R210). -/
def exec_ld_indNn_a (nn : Word) (s : State) : Result :=
  storeA 3 16 nn s

/-- LDH A,(n) (R211). -/
def exec_ldh_a_indN (n : Byte) (s : State) : Result :=
  loadA 2 12 (zeroPage n) s

/-- LD A,(nn) (R209). -/
def exec_ld_a_indNn (nn : Word) (s : State) : Result :=
  loadA 3 16 nn s

/-- LD (BC),A (R207). -/
def exec_ld_indBc_a (s : State) : Result :=
  storeA 1 8 s.bc s

/-- LD A,(BC) (R205). -/
def exec_ld_a_indBc (s : State) : Result :=
  loadA 1 8 s.bc s

/-- LD (DE),A (R208). -/
def exec_ld_indDe_a (s : State) : Result :=
  storeA 1 8 s.de s

/-- LD A,(DE) (R206). -/
def exec_ld_a_indDe (s : State) : Result :=
  loadA 1 8 s.de s

/-- LD (HL+),A (R217). -/
def exec_ld_indHlInc_a (s : State) : Result :=
  storeAThenHl (s.hl + 1) s

/-- LD A,(HL+) (R215). -/
def exec_ld_a_indHlInc (s : State) : Result :=
  loadAThenHl (s.hl + 1) s

/-- LD (HL-),A (R218). -/
def exec_ld_indHlDec_a (s : State) : Result :=
  storeAThenHl (s.hl - 1) s

/-- LD A,(HL-) (R216). -/
def exec_ld_a_indHlDec (s : State) : Result :=
  loadAThenHl (s.hl - 1) s

/-- LD B,B (R200). -/
def exec_ld_b_b (s : State) : Result :=
  loadRegReg .b .b s

/-- LD B,C (R200). -/
def exec_ld_b_c (s : State) : Result :=
  loadRegReg .b .c s

/-- LD B,D (R200). -/
def exec_ld_b_d (s : State) : Result :=
  loadRegReg .b .d s

/-- LD B,E (R200). -/
def exec_ld_b_e (s : State) : Result :=
  loadRegReg .b .e s

/-- LD B,H (R200). -/
def exec_ld_b_h (s : State) : Result :=
  loadRegReg .b .h s

/-- LD B,L (R200). -/
def exec_ld_b_l (s : State) : Result :=
  loadRegReg .b .l s

/-- LD B,(HL) (R201). -/
def exec_ld_b_indHl (s : State) : Result :=
  loadRegHl .b s

/-- LD B,A (R200). -/
def exec_ld_b_a (s : State) : Result :=
  loadRegReg .b .a s

/-- LD C,B (R200). -/
def exec_ld_c_b (s : State) : Result :=
  loadRegReg .c .b s

/-- LD C,C (R200). -/
def exec_ld_c_c (s : State) : Result :=
  loadRegReg .c .c s

/-- LD C,D (R200). -/
def exec_ld_c_d (s : State) : Result :=
  loadRegReg .c .d s

/-- LD C,E (R200). -/
def exec_ld_c_e (s : State) : Result :=
  loadRegReg .c .e s

/-- LD C,H (R200). -/
def exec_ld_c_h (s : State) : Result :=
  loadRegReg .c .h s

/-- LD C,L (R200). -/
def exec_ld_c_l (s : State) : Result :=
  loadRegReg .c .l s

/-- LD C,(HL) (R201). -/
def exec_ld_c_indHl (s : State) : Result :=
  loadRegHl .c s

/-- LD C,A (R200). -/
def exec_ld_c_a (s : State) : Result :=
  loadRegReg .c .a s

/-- LD D,B (R200). -/
def exec_ld_d_b (s : State) : Result :=
  loadRegReg .d .b s

/-- LD D,C (R200). -/
def exec_ld_d_c (s : State) : Result :=
  loadRegReg .d .c s

/-- LD D,D (R200). -/
def exec_ld_d_d (s : State) : Result :=
  loadRegReg .d .d s

/-- LD D,E (R200). -/
def exec_ld_d_e (s : State) : Result :=
  loadRegReg .d .e s

/-- LD D,H (R200). -/
def exec_ld_d_h (s : State) : Result :=
  loadRegReg .d .h s

/-- LD D,L (R200). -/
def exec_ld_d_l (s : State) : Result :=
  loadRegReg .d .l s

/-- LD D,(HL) (R201). -/
def exec_ld_d_indHl (s : State) : Result :=
  loadRegHl .d s

/-- LD D,A (R200). -/
def exec_ld_d_a (s : State) : Result :=
  loadRegReg .d .a s

/-- LD E,B (R200). -/
def exec_ld_e_b (s : State) : Result :=
  loadRegReg .e .b s

/-- LD E,C (R200). -/
def exec_ld_e_c (s : State) : Result :=
  loadRegReg .e .c s

/-- LD E,D (R200). -/
def exec_ld_e_d (s : State) : Result :=
  loadRegReg .e .d s

/-- LD E,E (R200). -/
def exec_ld_e_e (s : State) : Result :=
  loadRegReg .e .e s

/-- LD E,H (R200). -/
def exec_ld_e_h (s : State) : Result :=
  loadRegReg .e .h s

/-- LD E,L (R200). -/
def exec_ld_e_l (s : State) : Result :=
  loadRegReg .e .l s

/-- LD E,(HL) (R201). -/
def exec_ld_e_indHl (s : State) : Result :=
  loadRegHl .e s

/-- LD E,A (R200). -/
def exec_ld_e_a (s : State) : Result :=
  loadRegReg .e .a s

/-- LD H,B (R200). -/
def exec_ld_h_b (s : State) : Result :=
  loadRegReg .h .b s

/-- LD H,C (R200). -/
def exec_ld_h_c (s : State) : Result :=
  loadRegReg .h .c s

/-- LD H,D (R200). -/
def exec_ld_h_d (s : State) : Result :=
  loadRegReg .h .d s

/-- LD H,E (R200). -/
def exec_ld_h_e (s : State) : Result :=
  loadRegReg .h .e s

/-- LD H,H (R200). -/
def exec_ld_h_h (s : State) : Result :=
  loadRegReg .h .h s

/-- LD H,L (R200). -/
def exec_ld_h_l (s : State) : Result :=
  loadRegReg .h .l s

/-- LD H,(HL) (R201). -/
def exec_ld_h_indHl (s : State) : Result :=
  loadRegHl .h s

/-- LD H,A (R200). -/
def exec_ld_h_a (s : State) : Result :=
  loadRegReg .h .a s

/-- LD L,B (R200). -/
def exec_ld_l_b (s : State) : Result :=
  loadRegReg .l .b s

/-- LD L,C (R200). -/
def exec_ld_l_c (s : State) : Result :=
  loadRegReg .l .c s

/-- LD L,D (R200). -/
def exec_ld_l_d (s : State) : Result :=
  loadRegReg .l .d s

/-- LD L,E (R200). -/
def exec_ld_l_e (s : State) : Result :=
  loadRegReg .l .e s

/-- LD L,H (R200). -/
def exec_ld_l_h (s : State) : Result :=
  loadRegReg .l .h s

/-- LD L,L (R200). -/
def exec_ld_l_l (s : State) : Result :=
  loadRegReg .l .l s

/-- LD L,(HL) (R201). -/
def exec_ld_l_indHl (s : State) : Result :=
  loadRegHl .l s

/-- LD L,A (R200). -/
def exec_ld_l_a (s : State) : Result :=
  loadRegReg .l .a s

/-- LD (HL),B (R202). -/
def exec_ld_indHl_b (s : State) : Result :=
  storeHlReg .b s

/-- LD (HL),C (R202). -/
def exec_ld_indHl_c (s : State) : Result :=
  storeHlReg .c s

/-- LD (HL),D (R202). -/
def exec_ld_indHl_d (s : State) : Result :=
  storeHlReg .d s

/-- LD (HL),E (R202). -/
def exec_ld_indHl_e (s : State) : Result :=
  storeHlReg .e s

/-- LD (HL),H (R202). -/
def exec_ld_indHl_h (s : State) : Result :=
  storeHlReg .h s

/-- LD (HL),L (R202). -/
def exec_ld_indHl_l (s : State) : Result :=
  storeHlReg .l s

/-- LD (HL),A (R202). -/
def exec_ld_indHl_a (s : State) : Result :=
  storeHlReg .a s

/-- LD A,B (R200). -/
def exec_ld_a_b (s : State) : Result :=
  loadRegReg .a .b s

/-- LD A,C (R200). -/
def exec_ld_a_c (s : State) : Result :=
  loadRegReg .a .c s

/-- LD A,D (R200). -/
def exec_ld_a_d (s : State) : Result :=
  loadRegReg .a .d s

/-- LD A,E (R200). -/
def exec_ld_a_e (s : State) : Result :=
  loadRegReg .a .e s

/-- LD A,H (R200). -/
def exec_ld_a_h (s : State) : Result :=
  loadRegReg .a .h s

/-- LD A,L (R200). -/
def exec_ld_a_l (s : State) : Result :=
  loadRegReg .a .l s

/-- LD A,(HL) (R201). -/
def exec_ld_a_indHl (s : State) : Result :=
  loadRegHl .a s

/-- LD A,A (R200). -/
def exec_ld_a_a (s : State) : Result :=
  loadRegReg .a .a s

/-- POP BC (R230). -/
def exec_pop_bc (s : State) : Result :=
  popPair .bc s

/-- PUSH BC (R228). -/
def exec_push_bc (s : State) : Result :=
  pushPair .bc s

/-- POP DE (R230). -/
def exec_pop_de (s : State) : Result :=
  popPair .de s

/-- PUSH DE (R228). -/
def exec_push_de (s : State) : Result :=
  pushPair .de s

/-- POP HL (R230). -/
def exec_pop_hl (s : State) : Result :=
  popPair .hl s

/-- LD (C),A (R214). -/
def exec_ld_indC_a (s : State) : Result :=
  storeA 1 8 (zeroPage s.c) s

/-- PUSH HL (R228). -/
def exec_push_hl (s : State) : Result :=
  pushPair .hl s

/-- POP AF (R229). -/
def exec_pop_af (s : State) : Result :=
  popPair .af s

/-- LD A,(C) (R213). -/
def exec_ld_a_indC (s : State) : Result :=
  loadA 1 8 (zeroPage s.c) s

/-- PUSH AF (R228). -/
def exec_push_af (s : State) : Result :=
  pushPair .af s

/-- LD SP,HL (R220). -/
def exec_ld_sp_hl (s : State) : Result :=
  retire 8 (advance 1 { s with sp := s.hl })

end Sys2Proof.Machine
end

