-- ==== Sys2Proof/Machine/RotShift.lean ====
section
/-! DEFINITION. The accumulator rotates and the CB rotates and shifts, 43_rotate_shift_bit.md R320 to R339. -/

namespace Sys2Proof.Machine

/-- The cycles of a CB instruction that reads and writes its operand (30_encoding.md R149). -/
def rmwCycles : Loc8 → Nat
  | .reg _ => 8
  | .indHl => 16

/-- RLCA, RRCA, RLA, RRA (R320 to R323). -/
def rotA (op : RotOp) (s : State) : Result :=
  let out := aluRotA op s.a s.flags.c
  retire 4 (advance 1 ({ s with a := out.value }.setFlags out.flags))

/-- A CB rotate or shift (R324 to R339). -/
def rotLoc (op : RotOp) (loc : Loc8) (s : State) : Result :=
  let out := aluRot op (readLoc s loc) s.flags.c
  retire (rmwCycles loc) (advance 2 ((writeLoc s loc out.value).setFlags out.flags))

/-- RLCA (R320). -/
def exec_rlca (s : State) : Result :=
  rotA .rlc s

/-- RRCA (R321). -/
def exec_rrca (s : State) : Result :=
  rotA .rrc s

/-- RLA (R322). -/
def exec_rla (s : State) : Result :=
  rotA .rl s

/-- RRA (R323). -/
def exec_rra (s : State) : Result :=
  rotA .rr s

/-- RLC B (R324). -/
def exec_rlc_b (s : State) : Result :=
  rotLoc .rlc (.reg .b) s

/-- RLC C (R324). -/
def exec_rlc_c (s : State) : Result :=
  rotLoc .rlc (.reg .c) s

/-- RLC D (R324). -/
def exec_rlc_d (s : State) : Result :=
  rotLoc .rlc (.reg .d) s

/-- RLC E (R324). -/
def exec_rlc_e (s : State) : Result :=
  rotLoc .rlc (.reg .e) s

/-- RLC H (R324). -/
def exec_rlc_h (s : State) : Result :=
  rotLoc .rlc (.reg .h) s

/-- RLC L (R324). -/
def exec_rlc_l (s : State) : Result :=
  rotLoc .rlc (.reg .l) s

/-- RLC (HL) (R325). -/
def exec_rlc_indHl (s : State) : Result :=
  rotLoc .rlc .indHl s

/-- RLC A (R324). -/
def exec_rlc_a (s : State) : Result :=
  rotLoc .rlc (.reg .a) s

/-- RRC B (R326). -/
def exec_rrc_b (s : State) : Result :=
  rotLoc .rrc (.reg .b) s

/-- RRC C (R326). -/
def exec_rrc_c (s : State) : Result :=
  rotLoc .rrc (.reg .c) s

/-- RRC D (R326). -/
def exec_rrc_d (s : State) : Result :=
  rotLoc .rrc (.reg .d) s

/-- RRC E (R326). -/
def exec_rrc_e (s : State) : Result :=
  rotLoc .rrc (.reg .e) s

/-- RRC H (R326). -/
def exec_rrc_h (s : State) : Result :=
  rotLoc .rrc (.reg .h) s

/-- RRC L (R326). -/
def exec_rrc_l (s : State) : Result :=
  rotLoc .rrc (.reg .l) s

/-- RRC (HL) (R327). -/
def exec_rrc_indHl (s : State) : Result :=
  rotLoc .rrc .indHl s

/-- RRC A (R326). -/
def exec_rrc_a (s : State) : Result :=
  rotLoc .rrc (.reg .a) s

/-- RL B (R328). -/
def exec_rl_b (s : State) : Result :=
  rotLoc .rl (.reg .b) s

/-- RL C (R328). -/
def exec_rl_c (s : State) : Result :=
  rotLoc .rl (.reg .c) s

/-- RL D (R328). -/
def exec_rl_d (s : State) : Result :=
  rotLoc .rl (.reg .d) s

/-- RL E (R328). -/
def exec_rl_e (s : State) : Result :=
  rotLoc .rl (.reg .e) s

/-- RL H (R328). -/
def exec_rl_h (s : State) : Result :=
  rotLoc .rl (.reg .h) s

/-- RL L (R328). -/
def exec_rl_l (s : State) : Result :=
  rotLoc .rl (.reg .l) s

/-- RL (HL) (R329). -/
def exec_rl_indHl (s : State) : Result :=
  rotLoc .rl .indHl s

/-- RL A (R328). -/
def exec_rl_a (s : State) : Result :=
  rotLoc .rl (.reg .a) s

/-- RR B (R330). -/
def exec_rr_b (s : State) : Result :=
  rotLoc .rr (.reg .b) s

/-- RR C (R330). -/
def exec_rr_c (s : State) : Result :=
  rotLoc .rr (.reg .c) s

/-- RR D (R330). -/
def exec_rr_d (s : State) : Result :=
  rotLoc .rr (.reg .d) s

/-- RR E (R330). -/
def exec_rr_e (s : State) : Result :=
  rotLoc .rr (.reg .e) s

/-- RR H (R330). -/
def exec_rr_h (s : State) : Result :=
  rotLoc .rr (.reg .h) s

/-- RR L (R330). -/
def exec_rr_l (s : State) : Result :=
  rotLoc .rr (.reg .l) s

/-- RR (HL) (R331). -/
def exec_rr_indHl (s : State) : Result :=
  rotLoc .rr .indHl s

/-- RR A (R330). -/
def exec_rr_a (s : State) : Result :=
  rotLoc .rr (.reg .a) s

/-- SLA B (R332). -/
def exec_sla_b (s : State) : Result :=
  rotLoc .sla (.reg .b) s

/-- SLA C (R332). -/
def exec_sla_c (s : State) : Result :=
  rotLoc .sla (.reg .c) s

/-- SLA D (R332). -/
def exec_sla_d (s : State) : Result :=
  rotLoc .sla (.reg .d) s

/-- SLA E (R332). -/
def exec_sla_e (s : State) : Result :=
  rotLoc .sla (.reg .e) s

/-- SLA H (R332). -/
def exec_sla_h (s : State) : Result :=
  rotLoc .sla (.reg .h) s

/-- SLA L (R332). -/
def exec_sla_l (s : State) : Result :=
  rotLoc .sla (.reg .l) s

/-- SLA (HL) (R333). -/
def exec_sla_indHl (s : State) : Result :=
  rotLoc .sla .indHl s

/-- SLA A (R332). -/
def exec_sla_a (s : State) : Result :=
  rotLoc .sla (.reg .a) s

/-- SRA B (R334). -/
def exec_sra_b (s : State) : Result :=
  rotLoc .sra (.reg .b) s

/-- SRA C (R334). -/
def exec_sra_c (s : State) : Result :=
  rotLoc .sra (.reg .c) s

/-- SRA D (R334). -/
def exec_sra_d (s : State) : Result :=
  rotLoc .sra (.reg .d) s

/-- SRA E (R334). -/
def exec_sra_e (s : State) : Result :=
  rotLoc .sra (.reg .e) s

/-- SRA H (R334). -/
def exec_sra_h (s : State) : Result :=
  rotLoc .sra (.reg .h) s

/-- SRA L (R334). -/
def exec_sra_l (s : State) : Result :=
  rotLoc .sra (.reg .l) s

/-- SRA (HL) (R335). -/
def exec_sra_indHl (s : State) : Result :=
  rotLoc .sra .indHl s

/-- SRA A (R334). -/
def exec_sra_a (s : State) : Result :=
  rotLoc .sra (.reg .a) s

/-- SWAP B (R336). -/
def exec_swap_b (s : State) : Result :=
  rotLoc .swap (.reg .b) s

/-- SWAP C (R336). -/
def exec_swap_c (s : State) : Result :=
  rotLoc .swap (.reg .c) s

/-- SWAP D (R336). -/
def exec_swap_d (s : State) : Result :=
  rotLoc .swap (.reg .d) s

/-- SWAP E (R336). -/
def exec_swap_e (s : State) : Result :=
  rotLoc .swap (.reg .e) s

/-- SWAP H (R336). -/
def exec_swap_h (s : State) : Result :=
  rotLoc .swap (.reg .h) s

/-- SWAP L (R336). -/
def exec_swap_l (s : State) : Result :=
  rotLoc .swap (.reg .l) s

/-- SWAP (HL) (R337). -/
def exec_swap_indHl (s : State) : Result :=
  rotLoc .swap .indHl s

/-- SWAP A (R336). -/
def exec_swap_a (s : State) : Result :=
  rotLoc .swap (.reg .a) s

/-- SRL B (R338). -/
def exec_srl_b (s : State) : Result :=
  rotLoc .srl (.reg .b) s

/-- SRL C (R338). -/
def exec_srl_c (s : State) : Result :=
  rotLoc .srl (.reg .c) s

/-- SRL D (R338). -/
def exec_srl_d (s : State) : Result :=
  rotLoc .srl (.reg .d) s

/-- SRL E (R338). -/
def exec_srl_e (s : State) : Result :=
  rotLoc .srl (.reg .e) s

/-- SRL H (R338). -/
def exec_srl_h (s : State) : Result :=
  rotLoc .srl (.reg .h) s

/-- SRL L (R338). -/
def exec_srl_l (s : State) : Result :=
  rotLoc .srl (.reg .l) s

/-- SRL (HL) (R339). -/
def exec_srl_indHl (s : State) : Result :=
  rotLoc .srl .indHl s

/-- SRL A (R338). -/
def exec_srl_a (s : State) : Result :=
  rotLoc .srl (.reg .a) s

end Sys2Proof.Machine
end

