-- ==== Sys2Proof/Machine/BitOps.lean ====
section
/-! DEFINITION. BIT, RES and SET, 43_rotate_shift_bit.md R340 to R345. -/

namespace Sys2Proof.Machine

/-- The cycles of BIT (30_encoding.md R149). -/
def bitCycles : Loc8 → Nat
  | .reg _ => 8
  | .indHl => 12

/-- BIT b,x: flags only, no write (R340, R341). -/
def bitBit (bit : Nat) (loc : Loc8) (s : State) : Result :=
  retire (bitCycles loc) (advance 2 (s.setFlags (bitFlags bit (readLoc s loc) s.flags)))

/-- RES b,x: no flag (R342, R343). -/
def resBit (bit : Nat) (loc : Loc8) (s : State) : Result :=
  retire (rmwCycles loc) (advance 2 (writeLoc s loc (resValue bit (readLoc s loc))))

/-- SET b,x: no flag (R344, R345). -/
def setBit (bit : Nat) (loc : Loc8) (s : State) : Result :=
  retire (rmwCycles loc) (advance 2 (writeLoc s loc (setValue bit (readLoc s loc))))

/-- BIT 0,B (R340). -/
def exec_bit_0_b (s : State) : Result :=
  bitBit 0 (.reg .b) s

/-- BIT 0,C (R340). -/
def exec_bit_0_c (s : State) : Result :=
  bitBit 0 (.reg .c) s

/-- BIT 0,D (R340). -/
def exec_bit_0_d (s : State) : Result :=
  bitBit 0 (.reg .d) s

/-- BIT 0,E (R340). -/
def exec_bit_0_e (s : State) : Result :=
  bitBit 0 (.reg .e) s

/-- BIT 0,H (R340). -/
def exec_bit_0_h (s : State) : Result :=
  bitBit 0 (.reg .h) s

/-- BIT 0,L (R340). -/
def exec_bit_0_l (s : State) : Result :=
  bitBit 0 (.reg .l) s

/-- BIT 0,(HL) (R341). -/
def exec_bit_0_indHl (s : State) : Result :=
  bitBit 0 .indHl s

/-- BIT 0,A (R340). -/
def exec_bit_0_a (s : State) : Result :=
  bitBit 0 (.reg .a) s

/-- BIT 1,B (R340). -/
def exec_bit_1_b (s : State) : Result :=
  bitBit 1 (.reg .b) s

/-- BIT 1,C (R340). -/
def exec_bit_1_c (s : State) : Result :=
  bitBit 1 (.reg .c) s

/-- BIT 1,D (R340). -/
def exec_bit_1_d (s : State) : Result :=
  bitBit 1 (.reg .d) s

/-- BIT 1,E (R340). -/
def exec_bit_1_e (s : State) : Result :=
  bitBit 1 (.reg .e) s

/-- BIT 1,H (R340). -/
def exec_bit_1_h (s : State) : Result :=
  bitBit 1 (.reg .h) s

/-- BIT 1,L (R340). -/
def exec_bit_1_l (s : State) : Result :=
  bitBit 1 (.reg .l) s

/-- BIT 1,(HL) (R341). -/
def exec_bit_1_indHl (s : State) : Result :=
  bitBit 1 .indHl s

/-- BIT 1,A (R340). -/
def exec_bit_1_a (s : State) : Result :=
  bitBit 1 (.reg .a) s

/-- BIT 2,B (R340). -/
def exec_bit_2_b (s : State) : Result :=
  bitBit 2 (.reg .b) s

/-- BIT 2,C (R340). -/
def exec_bit_2_c (s : State) : Result :=
  bitBit 2 (.reg .c) s

/-- BIT 2,D (R340). -/
def exec_bit_2_d (s : State) : Result :=
  bitBit 2 (.reg .d) s

/-- BIT 2,E (R340). -/
def exec_bit_2_e (s : State) : Result :=
  bitBit 2 (.reg .e) s

/-- BIT 2,H (R340). -/
def exec_bit_2_h (s : State) : Result :=
  bitBit 2 (.reg .h) s

/-- BIT 2,L (R340). -/
def exec_bit_2_l (s : State) : Result :=
  bitBit 2 (.reg .l) s

/-- BIT 2,(HL) (R341). -/
def exec_bit_2_indHl (s : State) : Result :=
  bitBit 2 .indHl s

/-- BIT 2,A (R340). -/
def exec_bit_2_a (s : State) : Result :=
  bitBit 2 (.reg .a) s

/-- BIT 3,B (R340). -/
def exec_bit_3_b (s : State) : Result :=
  bitBit 3 (.reg .b) s

/-- BIT 3,C (R340). -/
def exec_bit_3_c (s : State) : Result :=
  bitBit 3 (.reg .c) s

/-- BIT 3,D (R340). -/
def exec_bit_3_d (s : State) : Result :=
  bitBit 3 (.reg .d) s

/-- BIT 3,E (R340). -/
def exec_bit_3_e (s : State) : Result :=
  bitBit 3 (.reg .e) s

/-- BIT 3,H (R340). -/
def exec_bit_3_h (s : State) : Result :=
  bitBit 3 (.reg .h) s

/-- BIT 3,L (R340). -/
def exec_bit_3_l (s : State) : Result :=
  bitBit 3 (.reg .l) s

/-- BIT 3,(HL) (R341). -/
def exec_bit_3_indHl (s : State) : Result :=
  bitBit 3 .indHl s

/-- BIT 3,A (R340). -/
def exec_bit_3_a (s : State) : Result :=
  bitBit 3 (.reg .a) s

/-- BIT 4,B (R340). -/
def exec_bit_4_b (s : State) : Result :=
  bitBit 4 (.reg .b) s

/-- BIT 4,C (R340). -/
def exec_bit_4_c (s : State) : Result :=
  bitBit 4 (.reg .c) s

/-- BIT 4,D (R340). -/
def exec_bit_4_d (s : State) : Result :=
  bitBit 4 (.reg .d) s

/-- BIT 4,E (R340). -/
def exec_bit_4_e (s : State) : Result :=
  bitBit 4 (.reg .e) s

/-- BIT 4,H (R340). -/
def exec_bit_4_h (s : State) : Result :=
  bitBit 4 (.reg .h) s

/-- BIT 4,L (R340). -/
def exec_bit_4_l (s : State) : Result :=
  bitBit 4 (.reg .l) s

/-- BIT 4,(HL) (R341). -/
def exec_bit_4_indHl (s : State) : Result :=
  bitBit 4 .indHl s

/-- BIT 4,A (R340). -/
def exec_bit_4_a (s : State) : Result :=
  bitBit 4 (.reg .a) s

/-- BIT 5,B (R340). -/
def exec_bit_5_b (s : State) : Result :=
  bitBit 5 (.reg .b) s

/-- BIT 5,C (R340). -/
def exec_bit_5_c (s : State) : Result :=
  bitBit 5 (.reg .c) s

/-- BIT 5,D (R340). -/
def exec_bit_5_d (s : State) : Result :=
  bitBit 5 (.reg .d) s

/-- BIT 5,E (R340). -/
def exec_bit_5_e (s : State) : Result :=
  bitBit 5 (.reg .e) s

/-- BIT 5,H (R340). -/
def exec_bit_5_h (s : State) : Result :=
  bitBit 5 (.reg .h) s

/-- BIT 5,L (R340). -/
def exec_bit_5_l (s : State) : Result :=
  bitBit 5 (.reg .l) s

/-- BIT 5,(HL) (R341). -/
def exec_bit_5_indHl (s : State) : Result :=
  bitBit 5 .indHl s

/-- BIT 5,A (R340). -/
def exec_bit_5_a (s : State) : Result :=
  bitBit 5 (.reg .a) s

/-- BIT 6,B (R340). -/
def exec_bit_6_b (s : State) : Result :=
  bitBit 6 (.reg .b) s

/-- BIT 6,C (R340). -/
def exec_bit_6_c (s : State) : Result :=
  bitBit 6 (.reg .c) s

/-- BIT 6,D (R340). -/
def exec_bit_6_d (s : State) : Result :=
  bitBit 6 (.reg .d) s

/-- BIT 6,E (R340). -/
def exec_bit_6_e (s : State) : Result :=
  bitBit 6 (.reg .e) s

/-- BIT 6,H (R340). -/
def exec_bit_6_h (s : State) : Result :=
  bitBit 6 (.reg .h) s

/-- BIT 6,L (R340). -/
def exec_bit_6_l (s : State) : Result :=
  bitBit 6 (.reg .l) s

/-- BIT 6,(HL) (R341). -/
def exec_bit_6_indHl (s : State) : Result :=
  bitBit 6 .indHl s

/-- BIT 6,A (R340). -/
def exec_bit_6_a (s : State) : Result :=
  bitBit 6 (.reg .a) s

/-- BIT 7,B (R340). -/
def exec_bit_7_b (s : State) : Result :=
  bitBit 7 (.reg .b) s

/-- BIT 7,C (R340). -/
def exec_bit_7_c (s : State) : Result :=
  bitBit 7 (.reg .c) s

/-- BIT 7,D (R340). -/
def exec_bit_7_d (s : State) : Result :=
  bitBit 7 (.reg .d) s

/-- BIT 7,E (R340). -/
def exec_bit_7_e (s : State) : Result :=
  bitBit 7 (.reg .e) s

/-- BIT 7,H (R340). -/
def exec_bit_7_h (s : State) : Result :=
  bitBit 7 (.reg .h) s

/-- BIT 7,L (R340). -/
def exec_bit_7_l (s : State) : Result :=
  bitBit 7 (.reg .l) s

/-- BIT 7,(HL) (R341). -/
def exec_bit_7_indHl (s : State) : Result :=
  bitBit 7 .indHl s

/-- BIT 7,A (R340). -/
def exec_bit_7_a (s : State) : Result :=
  bitBit 7 (.reg .a) s

/-- RES 0,B (R342). -/
def exec_res_0_b (s : State) : Result :=
  resBit 0 (.reg .b) s

/-- RES 0,C (R342). -/
def exec_res_0_c (s : State) : Result :=
  resBit 0 (.reg .c) s

/-- RES 0,D (R342). -/
def exec_res_0_d (s : State) : Result :=
  resBit 0 (.reg .d) s

/-- RES 0,E (R342). -/
def exec_res_0_e (s : State) : Result :=
  resBit 0 (.reg .e) s

/-- RES 0,H (R342). -/
def exec_res_0_h (s : State) : Result :=
  resBit 0 (.reg .h) s

/-- RES 0,L (R342). -/
def exec_res_0_l (s : State) : Result :=
  resBit 0 (.reg .l) s

/-- RES 0,(HL) (R343). -/
def exec_res_0_indHl (s : State) : Result :=
  resBit 0 .indHl s

/-- RES 0,A (R342). -/
def exec_res_0_a (s : State) : Result :=
  resBit 0 (.reg .a) s

/-- RES 1,B (R342). -/
def exec_res_1_b (s : State) : Result :=
  resBit 1 (.reg .b) s

/-- RES 1,C (R342). -/
def exec_res_1_c (s : State) : Result :=
  resBit 1 (.reg .c) s

/-- RES 1,D (R342). -/
def exec_res_1_d (s : State) : Result :=
  resBit 1 (.reg .d) s

/-- RES 1,E (R342). -/
def exec_res_1_e (s : State) : Result :=
  resBit 1 (.reg .e) s

/-- RES 1,H (R342). -/
def exec_res_1_h (s : State) : Result :=
  resBit 1 (.reg .h) s

/-- RES 1,L (R342). -/
def exec_res_1_l (s : State) : Result :=
  resBit 1 (.reg .l) s

/-- RES 1,(HL) (R343). -/
def exec_res_1_indHl (s : State) : Result :=
  resBit 1 .indHl s

/-- RES 1,A (R342). -/
def exec_res_1_a (s : State) : Result :=
  resBit 1 (.reg .a) s

/-- RES 2,B (R342). -/
def exec_res_2_b (s : State) : Result :=
  resBit 2 (.reg .b) s

/-- RES 2,C (R342). -/
def exec_res_2_c (s : State) : Result :=
  resBit 2 (.reg .c) s

/-- RES 2,D (R342). -/
def exec_res_2_d (s : State) : Result :=
  resBit 2 (.reg .d) s

/-- RES 2,E (R342). -/
def exec_res_2_e (s : State) : Result :=
  resBit 2 (.reg .e) s

/-- RES 2,H (R342). -/
def exec_res_2_h (s : State) : Result :=
  resBit 2 (.reg .h) s

/-- RES 2,L (R342). -/
def exec_res_2_l (s : State) : Result :=
  resBit 2 (.reg .l) s

/-- RES 2,(HL) (R343). -/
def exec_res_2_indHl (s : State) : Result :=
  resBit 2 .indHl s

/-- RES 2,A (R342). -/
def exec_res_2_a (s : State) : Result :=
  resBit 2 (.reg .a) s

/-- RES 3,B (R342). -/
def exec_res_3_b (s : State) : Result :=
  resBit 3 (.reg .b) s

/-- RES 3,C (R342). -/
def exec_res_3_c (s : State) : Result :=
  resBit 3 (.reg .c) s

/-- RES 3,D (R342). -/
def exec_res_3_d (s : State) : Result :=
  resBit 3 (.reg .d) s

/-- RES 3,E (R342). -/
def exec_res_3_e (s : State) : Result :=
  resBit 3 (.reg .e) s

/-- RES 3,H (R342). -/
def exec_res_3_h (s : State) : Result :=
  resBit 3 (.reg .h) s

/-- RES 3,L (R342). -/
def exec_res_3_l (s : State) : Result :=
  resBit 3 (.reg .l) s

/-- RES 3,(HL) (R343). -/
def exec_res_3_indHl (s : State) : Result :=
  resBit 3 .indHl s

/-- RES 3,A (R342). -/
def exec_res_3_a (s : State) : Result :=
  resBit 3 (.reg .a) s

/-- RES 4,B (R342). -/
def exec_res_4_b (s : State) : Result :=
  resBit 4 (.reg .b) s

/-- RES 4,C (R342). -/
def exec_res_4_c (s : State) : Result :=
  resBit 4 (.reg .c) s

/-- RES 4,D (R342). -/
def exec_res_4_d (s : State) : Result :=
  resBit 4 (.reg .d) s

/-- RES 4,E (R342). -/
def exec_res_4_e (s : State) : Result :=
  resBit 4 (.reg .e) s

/-- RES 4,H (R342). -/
def exec_res_4_h (s : State) : Result :=
  resBit 4 (.reg .h) s

/-- RES 4,L (R342). -/
def exec_res_4_l (s : State) : Result :=
  resBit 4 (.reg .l) s

/-- RES 4,(HL) (R343). -/
def exec_res_4_indHl (s : State) : Result :=
  resBit 4 .indHl s

/-- RES 4,A (R342). -/
def exec_res_4_a (s : State) : Result :=
  resBit 4 (.reg .a) s

/-- RES 5,B (R342). -/
def exec_res_5_b (s : State) : Result :=
  resBit 5 (.reg .b) s

/-- RES 5,C (R342). -/
def exec_res_5_c (s : State) : Result :=
  resBit 5 (.reg .c) s

/-- RES 5,D (R342). -/
def exec_res_5_d (s : State) : Result :=
  resBit 5 (.reg .d) s

/-- RES 5,E (R342). -/
def exec_res_5_e (s : State) : Result :=
  resBit 5 (.reg .e) s

/-- RES 5,H (R342). -/
def exec_res_5_h (s : State) : Result :=
  resBit 5 (.reg .h) s

/-- RES 5,L (R342). -/
def exec_res_5_l (s : State) : Result :=
  resBit 5 (.reg .l) s

/-- RES 5,(HL) (R343). -/
def exec_res_5_indHl (s : State) : Result :=
  resBit 5 .indHl s

/-- RES 5,A (R342). -/
def exec_res_5_a (s : State) : Result :=
  resBit 5 (.reg .a) s

/-- RES 6,B (R342). -/
def exec_res_6_b (s : State) : Result :=
  resBit 6 (.reg .b) s

/-- RES 6,C (R342). -/
def exec_res_6_c (s : State) : Result :=
  resBit 6 (.reg .c) s

/-- RES 6,D (R342). -/
def exec_res_6_d (s : State) : Result :=
  resBit 6 (.reg .d) s

/-- RES 6,E (R342). -/
def exec_res_6_e (s : State) : Result :=
  resBit 6 (.reg .e) s

/-- RES 6,H (R342). -/
def exec_res_6_h (s : State) : Result :=
  resBit 6 (.reg .h) s

/-- RES 6,L (R342). -/
def exec_res_6_l (s : State) : Result :=
  resBit 6 (.reg .l) s

/-- RES 6,(HL) (R343). -/
def exec_res_6_indHl (s : State) : Result :=
  resBit 6 .indHl s

/-- RES 6,A (R342). -/
def exec_res_6_a (s : State) : Result :=
  resBit 6 (.reg .a) s

/-- RES 7,B (R342). -/
def exec_res_7_b (s : State) : Result :=
  resBit 7 (.reg .b) s

/-- RES 7,C (R342). -/
def exec_res_7_c (s : State) : Result :=
  resBit 7 (.reg .c) s

/-- RES 7,D (R342). -/
def exec_res_7_d (s : State) : Result :=
  resBit 7 (.reg .d) s

/-- RES 7,E (R342). -/
def exec_res_7_e (s : State) : Result :=
  resBit 7 (.reg .e) s

/-- RES 7,H (R342). -/
def exec_res_7_h (s : State) : Result :=
  resBit 7 (.reg .h) s

/-- RES 7,L (R342). -/
def exec_res_7_l (s : State) : Result :=
  resBit 7 (.reg .l) s

/-- RES 7,(HL) (R343). -/
def exec_res_7_indHl (s : State) : Result :=
  resBit 7 .indHl s

/-- RES 7,A (R342). -/
def exec_res_7_a (s : State) : Result :=
  resBit 7 (.reg .a) s

/-- SET 0,B (R344). -/
def exec_set_0_b (s : State) : Result :=
  setBit 0 (.reg .b) s

/-- SET 0,C (R344). -/
def exec_set_0_c (s : State) : Result :=
  setBit 0 (.reg .c) s

/-- SET 0,D (R344). -/
def exec_set_0_d (s : State) : Result :=
  setBit 0 (.reg .d) s

/-- SET 0,E (R344). -/
def exec_set_0_e (s : State) : Result :=
  setBit 0 (.reg .e) s

/-- SET 0,H (R344). -/
def exec_set_0_h (s : State) : Result :=
  setBit 0 (.reg .h) s

/-- SET 0,L (R344). -/
def exec_set_0_l (s : State) : Result :=
  setBit 0 (.reg .l) s

/-- SET 0,(HL) (R345). -/
def exec_set_0_indHl (s : State) : Result :=
  setBit 0 .indHl s

/-- SET 0,A (R344). -/
def exec_set_0_a (s : State) : Result :=
  setBit 0 (.reg .a) s

/-- SET 1,B (R344). -/
def exec_set_1_b (s : State) : Result :=
  setBit 1 (.reg .b) s

/-- SET 1,C (R344). -/
def exec_set_1_c (s : State) : Result :=
  setBit 1 (.reg .c) s

/-- SET 1,D (R344). -/
def exec_set_1_d (s : State) : Result :=
  setBit 1 (.reg .d) s

/-- SET 1,E (R344). -/
def exec_set_1_e (s : State) : Result :=
  setBit 1 (.reg .e) s

/-- SET 1,H (R344). -/
def exec_set_1_h (s : State) : Result :=
  setBit 1 (.reg .h) s

/-- SET 1,L (R344). -/
def exec_set_1_l (s : State) : Result :=
  setBit 1 (.reg .l) s

/-- SET 1,(HL) (R345). -/
def exec_set_1_indHl (s : State) : Result :=
  setBit 1 .indHl s

/-- SET 1,A (R344). -/
def exec_set_1_a (s : State) : Result :=
  setBit 1 (.reg .a) s

/-- SET 2,B (R344). -/
def exec_set_2_b (s : State) : Result :=
  setBit 2 (.reg .b) s

/-- SET 2,C (R344). -/
def exec_set_2_c (s : State) : Result :=
  setBit 2 (.reg .c) s

/-- SET 2,D (R344). -/
def exec_set_2_d (s : State) : Result :=
  setBit 2 (.reg .d) s

/-- SET 2,E (R344). -/
def exec_set_2_e (s : State) : Result :=
  setBit 2 (.reg .e) s

/-- SET 2,H (R344). -/
def exec_set_2_h (s : State) : Result :=
  setBit 2 (.reg .h) s

/-- SET 2,L (R344). -/
def exec_set_2_l (s : State) : Result :=
  setBit 2 (.reg .l) s

/-- SET 2,(HL) (R345). -/
def exec_set_2_indHl (s : State) : Result :=
  setBit 2 .indHl s

/-- SET 2,A (R344). -/
def exec_set_2_a (s : State) : Result :=
  setBit 2 (.reg .a) s

/-- SET 3,B (R344). -/
def exec_set_3_b (s : State) : Result :=
  setBit 3 (.reg .b) s

/-- SET 3,C (R344). -/
def exec_set_3_c (s : State) : Result :=
  setBit 3 (.reg .c) s

/-- SET 3,D (R344). -/
def exec_set_3_d (s : State) : Result :=
  setBit 3 (.reg .d) s

/-- SET 3,E (R344). -/
def exec_set_3_e (s : State) : Result :=
  setBit 3 (.reg .e) s

/-- SET 3,H (R344). -/
def exec_set_3_h (s : State) : Result :=
  setBit 3 (.reg .h) s

/-- SET 3,L (R344). -/
def exec_set_3_l (s : State) : Result :=
  setBit 3 (.reg .l) s

/-- SET 3,(HL) (R345). -/
def exec_set_3_indHl (s : State) : Result :=
  setBit 3 .indHl s

/-- SET 3,A (R344). -/
def exec_set_3_a (s : State) : Result :=
  setBit 3 (.reg .a) s

/-- SET 4,B (R344). -/
def exec_set_4_b (s : State) : Result :=
  setBit 4 (.reg .b) s

/-- SET 4,C (R344). -/
def exec_set_4_c (s : State) : Result :=
  setBit 4 (.reg .c) s

/-- SET 4,D (R344). -/
def exec_set_4_d (s : State) : Result :=
  setBit 4 (.reg .d) s

/-- SET 4,E (R344). -/
def exec_set_4_e (s : State) : Result :=
  setBit 4 (.reg .e) s

/-- SET 4,H (R344). -/
def exec_set_4_h (s : State) : Result :=
  setBit 4 (.reg .h) s

/-- SET 4,L (R344). -/
def exec_set_4_l (s : State) : Result :=
  setBit 4 (.reg .l) s

/-- SET 4,(HL) (R345). -/
def exec_set_4_indHl (s : State) : Result :=
  setBit 4 .indHl s

/-- SET 4,A (R344). -/
def exec_set_4_a (s : State) : Result :=
  setBit 4 (.reg .a) s

/-- SET 5,B (R344). -/
def exec_set_5_b (s : State) : Result :=
  setBit 5 (.reg .b) s

/-- SET 5,C (R344). -/
def exec_set_5_c (s : State) : Result :=
  setBit 5 (.reg .c) s

/-- SET 5,D (R344). -/
def exec_set_5_d (s : State) : Result :=
  setBit 5 (.reg .d) s

/-- SET 5,E (R344). -/
def exec_set_5_e (s : State) : Result :=
  setBit 5 (.reg .e) s

/-- SET 5,H (R344). -/
def exec_set_5_h (s : State) : Result :=
  setBit 5 (.reg .h) s

/-- SET 5,L (R344). -/
def exec_set_5_l (s : State) : Result :=
  setBit 5 (.reg .l) s

/-- SET 5,(HL) (R345). -/
def exec_set_5_indHl (s : State) : Result :=
  setBit 5 .indHl s

/-- SET 5,A (R344). -/
def exec_set_5_a (s : State) : Result :=
  setBit 5 (.reg .a) s

/-- SET 6,B (R344). -/
def exec_set_6_b (s : State) : Result :=
  setBit 6 (.reg .b) s

/-- SET 6,C (R344). -/
def exec_set_6_c (s : State) : Result :=
  setBit 6 (.reg .c) s

/-- SET 6,D (R344). -/
def exec_set_6_d (s : State) : Result :=
  setBit 6 (.reg .d) s

/-- SET 6,E (R344). -/
def exec_set_6_e (s : State) : Result :=
  setBit 6 (.reg .e) s

/-- SET 6,H (R344). -/
def exec_set_6_h (s : State) : Result :=
  setBit 6 (.reg .h) s

/-- SET 6,L (R344). -/
def exec_set_6_l (s : State) : Result :=
  setBit 6 (.reg .l) s

/-- SET 6,(HL) (R345). -/
def exec_set_6_indHl (s : State) : Result :=
  setBit 6 .indHl s

/-- SET 6,A (R344). -/
def exec_set_6_a (s : State) : Result :=
  setBit 6 (.reg .a) s

/-- SET 7,B (R344). -/
def exec_set_7_b (s : State) : Result :=
  setBit 7 (.reg .b) s

/-- SET 7,C (R344). -/
def exec_set_7_c (s : State) : Result :=
  setBit 7 (.reg .c) s

/-- SET 7,D (R344). -/
def exec_set_7_d (s : State) : Result :=
  setBit 7 (.reg .d) s

/-- SET 7,E (R344). -/
def exec_set_7_e (s : State) : Result :=
  setBit 7 (.reg .e) s

/-- SET 7,H (R344). -/
def exec_set_7_h (s : State) : Result :=
  setBit 7 (.reg .h) s

/-- SET 7,L (R344). -/
def exec_set_7_l (s : State) : Result :=
  setBit 7 (.reg .l) s

/-- SET 7,(HL) (R345). -/
def exec_set_7_indHl (s : State) : Result :=
  setBit 7 .indHl s

/-- SET 7,A (R344). -/
def exec_set_7_a (s : State) : Result :=
  setBit 7 (.reg .a) s

end Sys2Proof.Machine
end

