-- ==== Sys2Proof/Machine/Prefix.lean ====
section
/-! DEFINITION. The CB prefix as the table's row of its own, 45_system.md R395: the CB byte split by the fields of 30_encoding.md R141 and
R145, without the decoder's map. -/

namespace Sys2Proof.Machine

/-- Execute the CB instruction selected by b2 (R395; the group of field x, R145). -/
def execCbByte (b2 : Byte) (s : State) : Result :=
  match fieldX b2 with
  | 0 => rotLoc (rotOfCode (fieldY b2)) (locOfCode (fieldZ b2)) s
  | 1 => bitBit (fieldY b2) (locOfCode (fieldZ b2)) s
  | 2 => resBit (fieldY b2) (locOfCode (fieldZ b2)) s
  | _ => setBit (fieldY b2) (locOfCode (fieldZ b2)) s

/-- PREFIX CB (R395). -/
def exec_prefix_cb (b2 : Byte) (s : State) : Result :=
  execCbByte b2 s

end Sys2Proof.Machine
end

