-- ==== Sys2Proof/Machine/System.lean ====
section
/-! DEFINITION. System instructions and the undefined opcodes, 45_system.md R390 to R396. None writes a flag. -/

namespace Sys2Proof.Machine

/-- STOP (R392). -/
def exec_stop (_x : Byte) (s : State) : Result :=
  retire 4 (advance 2 { s with cpuMode := .stopped })

/-- Any undefined byte (R396). -/
def exec_undefined (b : Byte) (s : State) : Result :=
  .next (raiseDecodeError s.pc b s)

/-- NOP (R390). -/
def exec_nop (s : State) : Result :=
  retire 4 (advance 1 s)

/-- HALT (R391). -/
def exec_halt (s : State) : Result :=
  retire 4 (advance 1 { s with cpuMode := .halted })

/-- DI (R393). -/
def exec_di (s : State) : Result :=
  retire 4 (advance 1 { s with ime := false, eiPending := false })

/-- EI (R394). -/
def exec_ei (s : State) : Result :=
  retire 4 (advance 1 { s with eiPending := true })

end Sys2Proof.Machine
end

