-- ==== Sys2Proof/Machine/Step.lean ====
section
/-! DEFINITION. One system step, 60_exceptions.md R420 and R421, after what the host sent before it (R530), and the host's
placing of an instruction for the next step. -/

namespace Sys2Proof.Machine

/-- One step of a machine to which the host has nothing more to send before it (R420, R421). -/
def systemStep (s : State) : Host.Outcome State Fault Refusal :=
  match cpuStart s with
  | .noStep r => .fault r
  | .idle s1 => .next (tickDevices s1)
  | .fetch s1 => finishStep (fetchInstr s1) (exec (fetchInstr s1) s1)

/-- One system step: the host's key events of this step, then the step (R420, R530). -/
def step (s : State) : Host.Outcome State Fault Refusal := systemStep (applyHostEvents s)

/-- The state with the instruction of a table word where the next step fetches it (logs 8 and 12). -/
def State.withFetchWord (s : State) (nbits w : Nat) : State := placeInstr (readyToFetch s) (tableWordBytes nbits w)

end Sys2Proof.Machine
end

