-- ==== Sys2Proof/Machine/HostInterface.lean ====
section
/-! DEFINITION. What the host can do between system steps beside key events, 60_exceptions.md R530, R531: read a byte, take a
register snapshot, read the frame, take a step and see its cycle count, run a cycle budget, and stop at a breakpoint. What
10_state.md R71 calls not architectural stands here and not in the machine: the count is a step's answer, the budget and the
breakpoints are the host's own arguments, and each function is made of reads and steps alone. -/

namespace Sys2Proof.Machine

/-- R530 "read a byte": `MemRead(a, 1)`, which changes nothing. -/
def hostReadByte (s : State) (addr : Word) : Byte := memRead s addr

/-- R530 "register snapshot". -/
structure RegisterSnapshot where
  a : Byte
  f : Byte
  b : Byte
  c : Byte
  d : Byte
  e : Byte
  h : Byte
  l : Byte
  sp : Word
  pc : Word
  cpuMode : CpuMode
  ime : Bool
  deriving DecidableEq, Repr

/-- R530 "register snapshot". -/
def hostSnapshot (s : State) : RegisterSnapshot :=
  { a := s.a, f := s.f, b := s.b, c := s.c, d := s.d, e := s.e, h := s.h, l := s.l
    sp := s.sp, pc := s.pc, cpuMode := s.cpuMode, ime := s.ime }

/-- R530 "read the frame": the shade of a pixel. -/
def hostPixel (s : State) (y : Fin 144) (x : Fin 160) : BitVec 2 := (s.frame[y])[x]

/-- R530 "step", R71: one system step, and the cycle count it returns to the host. The count passes through `State.cycles`,
whose value before the step is of no account (log 4). It is also the debugger's single step (R531). -/
def hostStep (s : State) : Host.Outcome (State × Nat) Fault Refusal :=
  match step s with
  | .next t => .next (t, t.cycles)
  | .fault r => .fault r
  | .refused r => .refused r

/-- R530 "run a budget", R71: system steps until their cycles sum to at least the budget, for at most `fuel` steps; the cycles run
come with the state. -/
def runBudget : Nat → Nat → Nat → State → Host.Outcome (State × Nat) Fault Refusal
  | 0, _, ran, s => .next (s, ran)
  | fuel + 1, budget, ran, s =>
    if budget ≤ ran then .next (s, ran)
    else
      match hostStep s with
      | .next (s', count) => runBudget fuel budget (ran + count) s'
      | .fault r => .fault r
      | .refused r => .refused r

/-- R531, R71: PC is in the host's breakpoint set; the core has no breakpoint. -/
def atBreakpoint (points : List Word) (s : State) : Bool := points.contains s.pc

/-- R531, R71: system steps, for at most `fuel` of them, the host comparing PC with its breakpoint set before each. -/
def runToBreakpoint : Nat → List Word → State → Result
  | 0, _, s => .next s
  | fuel + 1, points, s =>
    if atBreakpoint points s then .next s
    else
      match hostStep s with
      | .next (s', _) => runToBreakpoint fuel points s'
      | .fault r => .fault r
      | .refused r => .refused r

end Sys2Proof.Machine
end

