-- ==== Sys2Proof/Machine/Launch.lean ====
section
/-! DEFINITION. Reset with the launch parameters of 00_scope.md R8: 10_state.md R70, 70_reset_and_hazards.md R540, R541, and the
cartridge type of 20_memory.md R92. -/

namespace Sys2Proof.Machine

/-- The draw RESET_REGS (R70, R540), used with a boot ROM only; F is drawn with F[3:0] = 0. -/
structure ResetRegs where
  a : Byte
  f : Byte
  b : Byte
  c : Byte
  d : Byte
  e : Byte
  h : Byte
  l : Byte
  sp : Word
  deriving DecidableEq, Repr

/-- The draw RESET_MEM (R70, R540): the RAMs' bytes from offset 0 on. A byte past a list is `Config.unwrittenByte`. -/
structure ResetMem where
  wram : List Byte
  hram : List Byte
  vram : List Byte
  oam : List Byte
  eram : List Byte
  deriving DecidableEq, Repr

/-- The launch parameters of R8. -/
structure LaunchParams where
  rom : List Byte
  boot : Option (List Byte)
  regs : ResetRegs
  mem : ResetMem
  haltWakeNeedsIe : Bool
  deriving DecidableEq, Repr

/-- Why a launch is refused (R541): there is then no machine. Safe: nothing is claimed of it. -/
inductive LaunchRefusal where
  | romLength
  | cartridgeType
  | bootLength
  deriving DecidableEq, Repr

/-- R541 (a): a multiple of 0x4000 and at least 0x8000 bytes. -/
def romLengthOk (n : Nat) : Bool := decide (n % Config.romBankSize = 0) && decide (Config.romMinSize ≤ n)

/-- R92: the cartridge type byte says banked; none where the launch has no meaning for it. -/
def cartTypeBanked (t : Byte) : Option Bool :=
  if t = 0x00#8 then some false
  else if t = 0x01#8 ∨ t = 0x02#8 ∨ t = 0x03#8 then some true
  else none

/-- R541 (c): a boot ROM has exactly 256 bytes. -/
def bootLengthOk : Option (List Byte) → Bool
  | none => true
  | some bytes => decide (bytes.length = Config.bootSize)

/-- What every launch of this image starts from: R70's rows that are the same in both columns, and the draw of the RAMs. -/
def launchCommon (p : LaunchParams) (banked : Bool) : State :=
  { State.reset with
    rom := Memory.ofBytes p.rom.length p.rom
    romSize := p.rom.length
    cartBanked := banked
    wram := Memory.ofBytes Config.wramSize p.mem.wram
    hram := Memory.ofBytes Config.hramSize p.mem.hram
    vram := Memory.ofBytes Config.vramSize p.mem.vram
    oam := Memory.ofBytes Config.oamSize p.mem.oam
    eram := Memory.ofBytes (if banked then Config.eramBankedSize else Config.eramUnbankedSize) p.mem.eram
    haltWakeNeedsIe := p.haltWakeNeedsIe }

/-- R70's column "boot": the registers are the draw RESET_REGS, execution starts in the overlay, and the device registers
that a boot ROM sets up are 0. -/
def launchBoot (p : LaunchParams) (banked : Bool) (bytes : List Byte) : State :=
  { launchCommon p banked with
    a := p.regs.a
    f := p.regs.f &&& 0xF0#8
    b := p.regs.b
    c := p.regs.c
    d := p.regs.d
    e := p.regs.e
    h := p.regs.h
    l := p.regs.l
    sp := p.regs.sp
    pc := 0x0000#16
    boot := some (Memory.ofBytes Config.bootSize bytes)
    bootMapped := true
    dmaLast := 0x00#8
    ifReg := 0x00#5
    lcdc := 0x00#8
    bgp := 0x00#8
    obp0 := 0x00#8
    obp1 := 0x00#8 }

/-- The launch (R540, R541): the machine, or the precondition that the parameters break. -/
def launch (p : LaunchParams) : Except LaunchRefusal State :=
  if romLengthOk p.rom.length then
    match cartTypeBanked (p.rom.getD Config.cartTypeOffset 0x00#8) with
    | none => .error .cartridgeType
    | some banked =>
      if bootLengthOk p.boot then
        match p.boot with
        | none => .ok (launchCommon p banked)
        | some bytes => .ok (launchBoot p banked bytes)
      else .error .bootLength
  else .error .romLength

end Sys2Proof.Machine
end

