-- ==== Sys2Proof/Safety.lean ====
section
/-! DEFINITION. What counts as a legal state of the machine (the relations between fields that 10_state.md states and every
step keeps), and as a safe run (one that is not Faulted, 70_reset_and_hazards.md R560). -/

namespace Sys2Proof.Machine

/-- R39: the storage arrays are in canonical form and list no byte outside their sizes. -/
structure StorageLegal (s : State) : Prop where
  romWf : s.rom.wf = true
  romWithin : s.rom.within s.romSize = true
  romSizeOk : s.romSize % Config.romBankSize = 0 ∧ Config.romMinSize ≤ s.romSize
  bootLegal : ∀ m, s.boot = some m → m.wf = true ∧ m.within Config.bootSize = true
  vramWf : s.vram.wf = true
  vramWithin : s.vram.within Config.vramSize = true
  eramWf : s.eram.wf = true
  eramWithin : s.eram.within (if s.cartBanked then Config.eramBankedSize else Config.eramUnbankedSize) = true
  wramWf : s.wram.wf = true
  wramWithin : s.wram.within Config.wramSize = true
  oamWf : s.oam.wf = true
  oamWithin : s.oam.within Config.oamSize = true
  hramWf : s.hram.wf = true
  hramWithin : s.hram.within Config.hramSize = true

/-- The relations between control fields: F[3:0] = 0 (R32); rom_bank[4:0] is never 0 (R40); the overlay is mapped only with a
boot ROM (R41); a Faulted machine stands at the undefined byte it fetched (45_system.md R396). -/
structure ControlLegal (s : State) : Prop where
  flagsLow : s.f &&& 0x0F#8 = 0x00#8
  romBankLow : s.romBank.extractLsb' 0 5 ≠ 0#5
  bootPresent : s.bootMapped = true → s.boot.isSome = true
  faultedAt : ∀ k pc byte, s.cpuMode = .faulted k pc byte → s.pc = pc ∧ isUndefinedByte byte = true

/-- The relations between device fields: div_acc below 256, and tima_acc below the threshold while the timer runs (R47);
mode_clock below its mode's length (60_exceptions.md R460); LY in 0..153, and in VBlank exactly from line 144 on (R58, R462);
the coincidence flag is LY == LYC (R467). -/
structure DeviceLegal (s : State) : Prop where
  divAccLow : s.divAcc < Config.divPeriod
  timaAccLow : s.tac.getLsbD 2 = true → s.timaAcc < timaThreshold s.tac
  modeClockLow : s.modeClock < modeLimit s.ppuMode
  lyLow : s.ly.toNat < 154
  vblankLines : s.ppuMode = .vblank ↔ 144 ≤ s.ly.toNat
  coincidenceNow : s.coincidence = decide (s.ly = s.lyc)

/-- A legal state. -/
structure Legal (s : State) : Prop where
  storage : StorageLegal s
  control : ControlLegal s
  device : DeviceLegal s

/-- A run is safe at a state that is not Faulted (70_reset_and_hazards.md R560). -/
def notFaulted (s : State) : Bool :=
  match s.cpuMode with
  | .faulted _ _ _ => false
  | _ => true

/-- No interrupt is taken before the next fetch (60_exceptions.md R422; 70_reset_and_hazards.md R551 for the held one, log 21). -/
def noDispatch (s : State) : Bool := !s.ime || (pendingIrq s).isNone || heldByEi s

end Sys2Proof.Machine
end

