-- ==== Sys2Proof/Certificates/Slice0/Obligations.lean ====
section
/-! DEFINITION. The statements for the provers, from the numbered rules of spec/, with the tables of instructions that they
name (Sys2Proof.Rows): each list writes its instructions out, so a statement over a list holds for every one of them. -/

open Sys2Proof Sys2Proof.Machine

/-! ## The tables of instructions, and the arithmetic of the rules on numbers -/

/-- R200's 49 forms: the instruction, its destination, its source. -/
def Sys2Proof.Rows.regFromReg : List (Instr × Reg8 × Reg8) :=
  ([(.ld_b_b, .b, .b), (.ld_b_c, .b, .c), (.ld_b_d, .b, .d), (.ld_b_e, .b, .e), (.ld_b_h, .b, .h),
   (.ld_b_l, .b, .l), (.ld_b_a, .b, .a), (.ld_c_b, .c, .b), (.ld_c_c, .c, .c), (.ld_c_d, .c, .d),
   (.ld_c_e, .c, .e), (.ld_c_h, .c, .h), (.ld_c_l, .c, .l), (.ld_c_a, .c, .a), (.ld_d_b, .d, .b),
   (.ld_d_c, .d, .c), (.ld_d_d, .d, .d), (.ld_d_e, .d, .e), (.ld_d_h, .d, .h), (.ld_d_l, .d, .l),
   (.ld_d_a, .d, .a), (.ld_e_b, .e, .b), (.ld_e_c, .e, .c), (.ld_e_d, .e, .d), (.ld_e_e, .e, .e),
   (.ld_e_h, .e, .h), (.ld_e_l, .e, .l), (.ld_e_a, .e, .a), (.ld_h_b, .h, .b), (.ld_h_c, .h, .c),
   (.ld_h_d, .h, .d), (.ld_h_e, .h, .e)] : List (Instr × Reg8 × Reg8)) ++
  ([(.ld_h_h, .h, .h), (.ld_h_l, .h, .l), (.ld_h_a, .h, .a), (.ld_l_b, .l, .b), (.ld_l_c, .l, .c),
   (.ld_l_d, .l, .d), (.ld_l_e, .l, .e), (.ld_l_h, .l, .h), (.ld_l_l, .l, .l), (.ld_l_a, .l, .a),
   (.ld_a_b, .a, .b), (.ld_a_c, .a, .c), (.ld_a_d, .a, .d), (.ld_a_e, .a, .e), (.ld_a_h, .a, .h),
   (.ld_a_l, .a, .l), (.ld_a_a, .a, .a)] : List (Instr × Reg8 × Reg8))

/-- R203's seven forms with immediate n. -/
def Sys2Proof.Rows.regFromImm (n : Byte) : List (Instr × Reg8) :=
  [(.ld_b_n n, .b), (.ld_c_n n, .c), (.ld_d_n n, .d), (.ld_e_n n, .e), (.ld_h_n n, .h), (.ld_l_n n, .l),
   (.ld_a_n n, .a)]

/-- The forms that load a register from a byte of memory (R201, R205, R206, R209, R211, R213): the instruction, its bytes, its
destination, the address, its cycles. -/
def Sys2Proof.Rows.regFromMem (n : Byte) (nn : Word) : List (Instr × List Byte × Reg8 × (State → Word) × Nat) :=
  [(.ld_b_indHl, [0x46#8], .b, State.hl, 8), (.ld_c_indHl, [0x4E#8], .c, State.hl, 8),
   (.ld_d_indHl, [0x56#8], .d, State.hl, 8), (.ld_e_indHl, [0x5E#8], .e, State.hl, 8),
   (.ld_h_indHl, [0x66#8], .h, State.hl, 8), (.ld_l_indHl, [0x6E#8], .l, State.hl, 8),
   (.ld_a_indHl, [0x7E#8], .a, State.hl, 8), (.ld_a_indBc, [0x0A#8], .a, State.bc, 8),
   (.ld_a_indDe, [0x1A#8], .a, State.de, 8), (.ld_a_indNn nn, [0xFA#8, lo nn, hi nn], .a, fun _ => nn, 16),
   (.ldh_a_indN n, [0xF0#8, n], .a, fun _ => 0xFF00#16 + n.setWidth 16, 12),
   (.ld_a_indC, [0xF2#8], .a, fun s => 0xFF00#16 + s.c.setWidth 16, 8)]

/-- The forms that store one byte they do not compute (R202, R204, R207, R208, R210, R212, R214): the instruction, its bytes, the
address, the byte stored, its cycles. -/
def Sys2Proof.Rows.memFromReg (n : Byte) (nn : Word) : List (Instr × List Byte × (State → Word) × (State → Byte) × Nat) :=
  [(.ld_indHl_b, [0x70#8], State.hl, State.b, 8), (.ld_indHl_c, [0x71#8], State.hl, State.c, 8),
   (.ld_indHl_d, [0x72#8], State.hl, State.d, 8), (.ld_indHl_e, [0x73#8], State.hl, State.e, 8),
   (.ld_indHl_h, [0x74#8], State.hl, State.h, 8), (.ld_indHl_l, [0x75#8], State.hl, State.l, 8),
   (.ld_indHl_a, [0x77#8], State.hl, State.a, 8), (.ld_indHl_n n, [0x36#8, n], State.hl, fun _ => n, 12),
   (.ld_indBc_a, [0x02#8], State.bc, State.a, 8), (.ld_indDe_a, [0x12#8], State.de, State.a, 8),
   (.ld_indNn_a nn, [0xEA#8, lo nn, hi nn], fun _ => nn, State.a, 16),
   (.ldh_indN_a n, [0xE0#8, n], fun _ => 0xFF00#16 + n.setWidth 16, State.a, 12),
   (.ld_indC_a, [0xE2#8], fun s => 0xFF00#16 + s.c.setWidth 16, State.a, 8)]

/-- The pairs of selector dd with the instructions that name them: LD rr,nn, INC rr, DEC rr, ADD HL,rr (R219, R300 to R302). -/
def Sys2Proof.Rows.pairs (nn : Word) : List ((Instr × Instr × Instr × Instr) × Reg16) :=
  [((.ld_bc_nn nn, .inc_bc, .dec_bc, .add_hl_bc), .bc), ((.ld_de_nn nn, .inc_de, .dec_de, .add_hl_de), .de),
   ((.ld_hl_nn nn, .inc_hl, .dec_hl, .add_hl_hl), .hl), ((.ld_sp_nn nn, .inc_sp, .dec_sp, .add_hl_sp), .sp)]

/-- The pairs of selector qq with PUSH and POP (R228 to R230). -/
def Sys2Proof.Rows.stackPairs : List ((Instr × Instr) × StackPair) :=
  [((.push_bc, .pop_bc), .bc), ((.push_de, .pop_de), .de), ((.push_hl, .pop_hl), .hl), ((.push_af, .pop_af), .af)]

/-- The nine forms of ADD (R250 to R252): the instruction, its operand, its length and cycles. -/
def Sys2Proof.Rows.addForms (n : Byte) : List (Instr × Src8 × Word × Nat) :=
  [(.add_a_b, .reg .b, 1, 4), (.add_a_c, .reg .c, 1, 4), (.add_a_d, .reg .d, 1, 4), (.add_a_e, .reg .e, 1, 4),
   (.add_a_h, .reg .h, 1, 4), (.add_a_l, .reg .l, 1, 4), (.add_a_a, .reg .a, 1, 4),
   (.add_a_indHl, .indHl, 1, 8), (.add_a_n n, .imm n, 2, 8)]

/-- The nine forms of ADC (R253 to R255): the instruction, its operand, its length and cycles. -/
def Sys2Proof.Rows.adcForms (n : Byte) : List (Instr × Src8 × Word × Nat) :=
  [(.adc_a_b, .reg .b, 1, 4), (.adc_a_c, .reg .c, 1, 4), (.adc_a_d, .reg .d, 1, 4), (.adc_a_e, .reg .e, 1, 4),
   (.adc_a_h, .reg .h, 1, 4), (.adc_a_l, .reg .l, 1, 4), (.adc_a_a, .reg .a, 1, 4),
   (.adc_a_indHl, .indHl, 1, 8), (.adc_a_n n, .imm n, 2, 8)]

/-- The nine forms of SUB (R256 to R258): the instruction, its operand, its length and cycles. -/
def Sys2Proof.Rows.subForms (n : Byte) : List (Instr × Src8 × Word × Nat) :=
  [(.sub_b, .reg .b, 1, 4), (.sub_c, .reg .c, 1, 4), (.sub_d, .reg .d, 1, 4), (.sub_e, .reg .e, 1, 4),
   (.sub_h, .reg .h, 1, 4), (.sub_l, .reg .l, 1, 4), (.sub_a, .reg .a, 1, 4), (.sub_indHl, .indHl, 1, 8),
   (.sub_n n, .imm n, 2, 8)]

/-- The nine forms of SBC (R259 to R261): the instruction, its operand, its length and cycles. -/
def Sys2Proof.Rows.sbcForms (n : Byte) : List (Instr × Src8 × Word × Nat) :=
  [(.sbc_a_b, .reg .b, 1, 4), (.sbc_a_c, .reg .c, 1, 4), (.sbc_a_d, .reg .d, 1, 4), (.sbc_a_e, .reg .e, 1, 4),
   (.sbc_a_h, .reg .h, 1, 4), (.sbc_a_l, .reg .l, 1, 4), (.sbc_a_a, .reg .a, 1, 4),
   (.sbc_a_indHl, .indHl, 1, 8), (.sbc_a_n n, .imm n, 2, 8)]

/-- The nine forms of AND (R262 to R264): the instruction, its operand, its length and cycles. -/
def Sys2Proof.Rows.andForms (n : Byte) : List (Instr × Src8 × Word × Nat) :=
  [(.and_b, .reg .b, 1, 4), (.and_c, .reg .c, 1, 4), (.and_d, .reg .d, 1, 4), (.and_e, .reg .e, 1, 4),
   (.and_h, .reg .h, 1, 4), (.and_l, .reg .l, 1, 4), (.and_a, .reg .a, 1, 4), (.and_indHl, .indHl, 1, 8),
   (.and_n n, .imm n, 2, 8)]

/-- The nine forms of XOR (R265 to R267): the instruction, its operand, its length and cycles. -/
def Sys2Proof.Rows.xorForms (n : Byte) : List (Instr × Src8 × Word × Nat) :=
  [(.xor_b, .reg .b, 1, 4), (.xor_c, .reg .c, 1, 4), (.xor_d, .reg .d, 1, 4), (.xor_e, .reg .e, 1, 4),
   (.xor_h, .reg .h, 1, 4), (.xor_l, .reg .l, 1, 4), (.xor_a, .reg .a, 1, 4), (.xor_indHl, .indHl, 1, 8),
   (.xor_n n, .imm n, 2, 8)]

/-- The nine forms of OR (R268 to R270): the instruction, its operand, its length and cycles. -/
def Sys2Proof.Rows.orForms (n : Byte) : List (Instr × Src8 × Word × Nat) :=
  [(.or_b, .reg .b, 1, 4), (.or_c, .reg .c, 1, 4), (.or_d, .reg .d, 1, 4), (.or_e, .reg .e, 1, 4),
   (.or_h, .reg .h, 1, 4), (.or_l, .reg .l, 1, 4), (.or_a, .reg .a, 1, 4), (.or_indHl, .indHl, 1, 8),
   (.or_n n, .imm n, 2, 8)]

/-- The nine forms of CP (R271 to R273): the instruction, its operand, its length and cycles. -/
def Sys2Proof.Rows.cpForms (n : Byte) : List (Instr × Src8 × Word × Nat) :=
  [(.cp_b, .reg .b, 1, 4), (.cp_c, .reg .c, 1, 4), (.cp_d, .reg .d, 1, 4), (.cp_e, .reg .e, 1, 4),
   (.cp_h, .reg .h, 1, 4), (.cp_l, .reg .l, 1, 4), (.cp_a, .reg .a, 1, 4), (.cp_indHl, .indHl, 1, 8),
   (.cp_n n, .imm n, 2, 8)]

/-- INC r and DEC r (R274, R276): the two instructions and the register. -/
def Sys2Proof.Rows.incDecReg : List (Instr × Instr × Reg8) :=
  [(.inc_b, .dec_b, .b), (.inc_c, .dec_c, .c), (.inc_d, .dec_d, .d), (.inc_e, .dec_e, .e), (.inc_h, .dec_h, .h),
   (.inc_l, .dec_l, .l), (.inc_a, .dec_a, .a)]

/-- RLCA, RRCA, RLA, RRA (R320 to R323) with their kind. -/
def Sys2Proof.Rows.accumulatorRotates : List (Instr × RotOp) :=
  [(.rlca, .rlc), (.rrca, .rrc), (.rla, .rl), (.rra, .rr)]

/-- The 32 CB rotates (R324 to R331): the instruction, its kind, its operand. -/
def Sys2Proof.Rows.cbRotates : List (Instr × RotOp × Loc8) :=
  [(.rlc_b, .rlc, .reg .b), (.rlc_c, .rlc, .reg .c), (.rlc_d, .rlc, .reg .d), (.rlc_e, .rlc, .reg .e),
   (.rlc_h, .rlc, .reg .h), (.rlc_l, .rlc, .reg .l), (.rlc_a, .rlc, .reg .a), (.rlc_indHl, .rlc, .indHl),
   (.rrc_b, .rrc, .reg .b), (.rrc_c, .rrc, .reg .c), (.rrc_d, .rrc, .reg .d), (.rrc_e, .rrc, .reg .e),
   (.rrc_h, .rrc, .reg .h), (.rrc_l, .rrc, .reg .l), (.rrc_a, .rrc, .reg .a), (.rrc_indHl, .rrc, .indHl),
   (.rl_b, .rl, .reg .b), (.rl_c, .rl, .reg .c), (.rl_d, .rl, .reg .d), (.rl_e, .rl, .reg .e),
   (.rl_h, .rl, .reg .h), (.rl_l, .rl, .reg .l), (.rl_a, .rl, .reg .a), (.rl_indHl, .rl, .indHl),
   (.rr_b, .rr, .reg .b), (.rr_c, .rr, .reg .c), (.rr_d, .rr, .reg .d), (.rr_e, .rr, .reg .e),
   (.rr_h, .rr, .reg .h), (.rr_l, .rr, .reg .l), (.rr_a, .rr, .reg .a), (.rr_indHl, .rr, .indHl)]

/-- The 32 CB shifts and swaps (R332 to R339): the instruction, its kind, its operand. -/
def Sys2Proof.Rows.cbShifts : List (Instr × RotOp × Loc8) :=
  [(.sla_b, .sla, .reg .b), (.sla_c, .sla, .reg .c), (.sla_d, .sla, .reg .d), (.sla_e, .sla, .reg .e),
   (.sla_h, .sla, .reg .h), (.sla_l, .sla, .reg .l), (.sla_a, .sla, .reg .a), (.sla_indHl, .sla, .indHl),
   (.sra_b, .sra, .reg .b), (.sra_c, .sra, .reg .c), (.sra_d, .sra, .reg .d), (.sra_e, .sra, .reg .e),
   (.sra_h, .sra, .reg .h), (.sra_l, .sra, .reg .l), (.sra_a, .sra, .reg .a), (.sra_indHl, .sra, .indHl),
   (.swap_b, .swap, .reg .b), (.swap_c, .swap, .reg .c), (.swap_d, .swap, .reg .d), (.swap_e, .swap, .reg .e),
   (.swap_h, .swap, .reg .h), (.swap_l, .swap, .reg .l), (.swap_a, .swap, .reg .a),
   (.swap_indHl, .swap, .indHl), (.srl_b, .srl, .reg .b), (.srl_c, .srl, .reg .c), (.srl_d, .srl, .reg .d),
   (.srl_e, .srl, .reg .e), (.srl_h, .srl, .reg .h), (.srl_l, .srl, .reg .l), (.srl_a, .srl, .reg .a),
   (.srl_indHl, .srl, .indHl)]

/-- The 64 forms of BIT (R340, R341): the instruction, the bit number, the operand. -/
def Sys2Proof.Rows.bitForms : List (Instr × Nat × Loc8) :=
  ([(.bit_0_b, 0, .reg .b), (.bit_0_c, 0, .reg .c), (.bit_0_d, 0, .reg .d), (.bit_0_e, 0, .reg .e),
   (.bit_0_h, 0, .reg .h), (.bit_0_l, 0, .reg .l), (.bit_0_a, 0, .reg .a), (.bit_0_indHl, 0, .indHl),
   (.bit_1_b, 1, .reg .b), (.bit_1_c, 1, .reg .c), (.bit_1_d, 1, .reg .d), (.bit_1_e, 1, .reg .e),
   (.bit_1_h, 1, .reg .h), (.bit_1_l, 1, .reg .l), (.bit_1_a, 1, .reg .a), (.bit_1_indHl, 1, .indHl),
   (.bit_2_b, 2, .reg .b), (.bit_2_c, 2, .reg .c), (.bit_2_d, 2, .reg .d), (.bit_2_e, 2, .reg .e),
   (.bit_2_h, 2, .reg .h), (.bit_2_l, 2, .reg .l), (.bit_2_a, 2, .reg .a), (.bit_2_indHl, 2, .indHl),
   (.bit_3_b, 3, .reg .b), (.bit_3_c, 3, .reg .c), (.bit_3_d, 3, .reg .d), (.bit_3_e, 3, .reg .e),
   (.bit_3_h, 3, .reg .h), (.bit_3_l, 3, .reg .l), (.bit_3_a, 3, .reg .a), (.bit_3_indHl, 3, .indHl)] : List (Instr × Nat × Loc8)) ++
  ([(.bit_4_b, 4, .reg .b), (.bit_4_c, 4, .reg .c), (.bit_4_d, 4, .reg .d), (.bit_4_e, 4, .reg .e),
   (.bit_4_h, 4, .reg .h), (.bit_4_l, 4, .reg .l), (.bit_4_a, 4, .reg .a), (.bit_4_indHl, 4, .indHl),
   (.bit_5_b, 5, .reg .b), (.bit_5_c, 5, .reg .c), (.bit_5_d, 5, .reg .d), (.bit_5_e, 5, .reg .e),
   (.bit_5_h, 5, .reg .h), (.bit_5_l, 5, .reg .l), (.bit_5_a, 5, .reg .a), (.bit_5_indHl, 5, .indHl),
   (.bit_6_b, 6, .reg .b), (.bit_6_c, 6, .reg .c), (.bit_6_d, 6, .reg .d), (.bit_6_e, 6, .reg .e),
   (.bit_6_h, 6, .reg .h), (.bit_6_l, 6, .reg .l), (.bit_6_a, 6, .reg .a), (.bit_6_indHl, 6, .indHl),
   (.bit_7_b, 7, .reg .b), (.bit_7_c, 7, .reg .c), (.bit_7_d, 7, .reg .d), (.bit_7_e, 7, .reg .e),
   (.bit_7_h, 7, .reg .h), (.bit_7_l, 7, .reg .l), (.bit_7_a, 7, .reg .a), (.bit_7_indHl, 7, .indHl)] : List (Instr × Nat × Loc8))

/-- The 64 forms of RES (R342, R343): the instruction, the bit number, the operand. -/
def Sys2Proof.Rows.resForms : List (Instr × Nat × Loc8) :=
  ([(.res_0_b, 0, .reg .b), (.res_0_c, 0, .reg .c), (.res_0_d, 0, .reg .d), (.res_0_e, 0, .reg .e),
   (.res_0_h, 0, .reg .h), (.res_0_l, 0, .reg .l), (.res_0_a, 0, .reg .a), (.res_0_indHl, 0, .indHl),
   (.res_1_b, 1, .reg .b), (.res_1_c, 1, .reg .c), (.res_1_d, 1, .reg .d), (.res_1_e, 1, .reg .e),
   (.res_1_h, 1, .reg .h), (.res_1_l, 1, .reg .l), (.res_1_a, 1, .reg .a), (.res_1_indHl, 1, .indHl),
   (.res_2_b, 2, .reg .b), (.res_2_c, 2, .reg .c), (.res_2_d, 2, .reg .d), (.res_2_e, 2, .reg .e),
   (.res_2_h, 2, .reg .h), (.res_2_l, 2, .reg .l), (.res_2_a, 2, .reg .a), (.res_2_indHl, 2, .indHl),
   (.res_3_b, 3, .reg .b), (.res_3_c, 3, .reg .c), (.res_3_d, 3, .reg .d), (.res_3_e, 3, .reg .e),
   (.res_3_h, 3, .reg .h), (.res_3_l, 3, .reg .l), (.res_3_a, 3, .reg .a), (.res_3_indHl, 3, .indHl)] : List (Instr × Nat × Loc8)) ++
  ([(.res_4_b, 4, .reg .b), (.res_4_c, 4, .reg .c), (.res_4_d, 4, .reg .d), (.res_4_e, 4, .reg .e),
   (.res_4_h, 4, .reg .h), (.res_4_l, 4, .reg .l), (.res_4_a, 4, .reg .a), (.res_4_indHl, 4, .indHl),
   (.res_5_b, 5, .reg .b), (.res_5_c, 5, .reg .c), (.res_5_d, 5, .reg .d), (.res_5_e, 5, .reg .e),
   (.res_5_h, 5, .reg .h), (.res_5_l, 5, .reg .l), (.res_5_a, 5, .reg .a), (.res_5_indHl, 5, .indHl),
   (.res_6_b, 6, .reg .b), (.res_6_c, 6, .reg .c), (.res_6_d, 6, .reg .d), (.res_6_e, 6, .reg .e),
   (.res_6_h, 6, .reg .h), (.res_6_l, 6, .reg .l), (.res_6_a, 6, .reg .a), (.res_6_indHl, 6, .indHl),
   (.res_7_b, 7, .reg .b), (.res_7_c, 7, .reg .c), (.res_7_d, 7, .reg .d), (.res_7_e, 7, .reg .e),
   (.res_7_h, 7, .reg .h), (.res_7_l, 7, .reg .l), (.res_7_a, 7, .reg .a), (.res_7_indHl, 7, .indHl)] : List (Instr × Nat × Loc8))

/-- The 64 forms of SET (R344, R345): the instruction, the bit number, the operand. -/
def Sys2Proof.Rows.setForms : List (Instr × Nat × Loc8) :=
  ([(.set_0_b, 0, .reg .b), (.set_0_c, 0, .reg .c), (.set_0_d, 0, .reg .d), (.set_0_e, 0, .reg .e),
   (.set_0_h, 0, .reg .h), (.set_0_l, 0, .reg .l), (.set_0_a, 0, .reg .a), (.set_0_indHl, 0, .indHl),
   (.set_1_b, 1, .reg .b), (.set_1_c, 1, .reg .c), (.set_1_d, 1, .reg .d), (.set_1_e, 1, .reg .e),
   (.set_1_h, 1, .reg .h), (.set_1_l, 1, .reg .l), (.set_1_a, 1, .reg .a), (.set_1_indHl, 1, .indHl),
   (.set_2_b, 2, .reg .b), (.set_2_c, 2, .reg .c), (.set_2_d, 2, .reg .d), (.set_2_e, 2, .reg .e),
   (.set_2_h, 2, .reg .h), (.set_2_l, 2, .reg .l), (.set_2_a, 2, .reg .a), (.set_2_indHl, 2, .indHl),
   (.set_3_b, 3, .reg .b), (.set_3_c, 3, .reg .c), (.set_3_d, 3, .reg .d), (.set_3_e, 3, .reg .e),
   (.set_3_h, 3, .reg .h), (.set_3_l, 3, .reg .l), (.set_3_a, 3, .reg .a), (.set_3_indHl, 3, .indHl)] : List (Instr × Nat × Loc8)) ++
  ([(.set_4_b, 4, .reg .b), (.set_4_c, 4, .reg .c), (.set_4_d, 4, .reg .d), (.set_4_e, 4, .reg .e),
   (.set_4_h, 4, .reg .h), (.set_4_l, 4, .reg .l), (.set_4_a, 4, .reg .a), (.set_4_indHl, 4, .indHl),
   (.set_5_b, 5, .reg .b), (.set_5_c, 5, .reg .c), (.set_5_d, 5, .reg .d), (.set_5_e, 5, .reg .e),
   (.set_5_h, 5, .reg .h), (.set_5_l, 5, .reg .l), (.set_5_a, 5, .reg .a), (.set_5_indHl, 5, .indHl),
   (.set_6_b, 6, .reg .b), (.set_6_c, 6, .reg .c), (.set_6_d, 6, .reg .d), (.set_6_e, 6, .reg .e),
   (.set_6_h, 6, .reg .h), (.set_6_l, 6, .reg .l), (.set_6_a, 6, .reg .a), (.set_6_indHl, 6, .indHl),
   (.set_7_b, 7, .reg .b), (.set_7_c, 7, .reg .c), (.set_7_d, 7, .reg .d), (.set_7_e, 7, .reg .e),
   (.set_7_h, 7, .reg .h), (.set_7_l, 7, .reg .l), (.set_7_a, 7, .reg .a), (.set_7_indHl, 7, .indHl)] : List (Instr × Nat × Loc8))

/-- The conditions (R144, R359) with the instructions that test them, JP cc,nn, JR cc,e, CALL cc,nn and RET cc, the code cc, and
what each says of F. -/
def Sys2Proof.Rows.conditions (nn : Word) (e : Byte) : List ((Instr × Instr × Instr × Instr) × Nat × (State → Prop)) :=
  [((.jp_nz_nn nn, .jr_nz_e e, .call_nz_nn nn, .ret_nz), 0, fun s => s.f.getLsbD 7 = false),
   ((.jp_z_nn nn, .jr_z_e e, .call_z_nn nn, .ret_z), 1, fun s => s.f.getLsbD 7 = true),
   ((.jp_nc_nn nn, .jr_nc_e e, .call_nc_nn nn, .ret_nc), 2, fun s => s.f.getLsbD 4 = false),
   ((.jp_c_nn nn, .jr_c_e e, .call_c_nn nn, .ret_c), 3, fun s => s.f.getLsbD 4 = true)]

/-- The RST instructions with their targets (R370). -/
def Sys2Proof.Rows.restarts : List (Instr × Word) :=
  [(.rst_00, 0x0000#16), (.rst_08, 0x0008#16), (.rst_10, 0x0010#16), (.rst_18, 0x0018#16), (.rst_20, 0x0020#16),
   (.rst_28, 0x0028#16), (.rst_30, 0x0030#16), (.rst_38, 0x0038#16)]

/-- Every form that stores one byte, with the address it stores to. -/
def Sys2Proof.Rows.byteStores (n : Byte) (nn : Word) : List (Instr × (State → Word)) :=
  ([(.ld_indHl_b, State.hl), (.ld_indHl_c, State.hl), (.ld_indHl_d, State.hl), (.ld_indHl_e, State.hl),
   (.ld_indHl_h, State.hl), (.ld_indHl_l, State.hl), (.ld_indHl_a, State.hl), (.ld_indHl_n n, State.hl),
   (.ld_indBc_a, State.bc), (.ld_indDe_a, State.de), (.ld_indNn_a nn, fun _ => nn),
   (.ldh_indN_a n, fun _ => zeroPage n), (.ld_indC_a, fun s => zeroPage s.c), (.ld_indHlInc_a, State.hl),
   (.ld_indHlDec_a, State.hl), (.inc_indHl, State.hl), (.dec_indHl, State.hl), (.rlc_indHl, State.hl),
   (.rrc_indHl, State.hl), (.rl_indHl, State.hl), (.rr_indHl, State.hl), (.sla_indHl, State.hl),
   (.sra_indHl, State.hl), (.swap_indHl, State.hl), (.srl_indHl, State.hl), (.res_0_indHl, State.hl),
   (.res_1_indHl, State.hl), (.res_2_indHl, State.hl), (.res_3_indHl, State.hl), (.res_4_indHl, State.hl),
   (.res_5_indHl, State.hl), (.res_6_indHl, State.hl)] : List (Instr × (State → Word))) ++
  ([(.res_7_indHl, State.hl), (.set_0_indHl, State.hl), (.set_1_indHl, State.hl), (.set_2_indHl, State.hl),
   (.set_3_indHl, State.hl), (.set_4_indHl, State.hl), (.set_5_indHl, State.hl), (.set_6_indHl, State.hl),
   (.set_7_indHl, State.hl)] : List (Instr × (State → Word)))

/-- Every form that may store a word, with the address of its low byte; a CALL cc that is not taken stores nothing. -/
def Sys2Proof.Rows.wordStores (nn : Word) : List (Instr × (State → Word)) :=
  [(.ld_indNn_sp nn, fun _ => nn), (.push_bc, fun s => s.sp - 2), (.push_de, fun s => s.sp - 2),
   (.push_hl, fun s => s.sp - 2), (.push_af, fun s => s.sp - 2), (.call_nn nn, fun s => s.sp - 2),
   (.rst_00, fun s => s.sp - 2), (.rst_08, fun s => s.sp - 2), (.rst_10, fun s => s.sp - 2),
   (.rst_18, fun s => s.sp - 2), (.rst_20, fun s => s.sp - 2), (.rst_28, fun s => s.sp - 2),
   (.rst_30, fun s => s.sp - 2), (.rst_38, fun s => s.sp - 2), (.call_nz_nn nn, fun s => s.sp - 2),
   (.call_z_nn nn, fun s => s.sp - 2), (.call_nc_nn nn, fun s => s.sp - 2), (.call_c_nn nn, fun s => s.sp - 2)]

/-- The instructions that may store to memory: those of `byteStores` and `wordStores`, and the prefix row. -/
def Sys2Proof.Rows.mayStore : Instr → Bool
  | .ld_indNn_sp _ => true
  | .ld_indHl_n _ => true
  | .call_nz_nn _ => true
  | .prefix_cb _ => true
  | .call_z_nn _ => true
  | .call_nn _ => true
  | .call_nc_nn _ => true
  | .call_c_nn _ => true
  | .ldh_indN_a _ => true
  | .ld_indNn_a _ => true
  | .ld_indBc_a => true
  | .ld_indDe_a => true
  | .ld_indHlInc_a => true
  | .ld_indHlDec_a => true
  | .inc_indHl => true
  | .dec_indHl => true
  | .ld_indHl_b => true
  | .ld_indHl_c => true
  | .ld_indHl_d => true
  | .ld_indHl_e => true
  | .ld_indHl_h => true
  | .ld_indHl_l => true
  | .ld_indHl_a => true
  | .push_bc => true
  | .rst_00 => true
  | .rst_08 => true
  | .push_de => true
  | .rst_10 => true
  | .rst_18 => true
  | .ld_indC_a => true
  | .push_hl => true
  | .rst_20 => true
  | .rst_28 => true
  | .push_af => true
  | .rst_30 => true
  | .rst_38 => true
  | .rlc_indHl => true
  | .rrc_indHl => true
  | .rl_indHl => true
  | .rr_indHl => true
  | .sla_indHl => true
  | .sra_indHl => true
  | .swap_indHl => true
  | .srl_indHl => true
  | .res_0_indHl => true
  | .res_1_indHl => true
  | .res_2_indHl => true
  | .res_3_indHl => true
  | .res_4_indHl => true
  | .res_5_indHl => true
  | .res_6_indHl => true
  | .res_7_indHl => true
  | .set_0_indHl => true
  | .set_1_indHl => true
  | .set_2_indHl => true
  | .set_3_indHl => true
  | .set_4_indHl => true
  | .set_5_indHl => true
  | .set_6_indHl => true
  | .set_7_indHl => true
  | _ => false

/-- The instructions that may write a flag (10_state.md R33's rows other than the last but one), and the prefix row. -/
def Sys2Proof.Rows.mayWriteFlags : Instr → Bool
  | .add_a_n _ => true
  | .prefix_cb _ => true
  | .adc_a_n _ => true
  | .sub_n _ => true
  | .sbc_a_n _ => true
  | .and_n _ => true
  | .add_sp_e _ => true
  | .xor_n _ => true
  | .or_n _ => true
  | .ld_hl_spE _ => true
  | .cp_n _ => true
  | .inc_b => true
  | .dec_b => true
  | .rlca => true
  | .add_hl_bc => true
  | .inc_c => true
  | .dec_c => true
  | .rrca => true
  | .inc_d => true
  | .dec_d => true
  | .rla => true
  | .add_hl_de => true
  | .inc_e => true
  | .dec_e => true
  | .rra => true
  | .inc_h => true
  | .dec_h => true
  | .daa => true
  | .add_hl_hl => true
  | .inc_l => true
  | .dec_l => true
  | .cpl => true
  | .inc_indHl => true
  | .dec_indHl => true
  | .scf => true
  | .add_hl_sp => true
  | .inc_a => true
  | .dec_a => true
  | .ccf => true
  | .add_a_b => true
  | .add_a_c => true
  | .add_a_d => true
  | .add_a_e => true
  | .add_a_h => true
  | .add_a_l => true
  | .add_a_indHl => true
  | .add_a_a => true
  | .adc_a_b => true
  | .adc_a_c => true
  | .adc_a_d => true
  | .adc_a_e => true
  | .adc_a_h => true
  | .adc_a_l => true
  | .adc_a_indHl => true
  | .adc_a_a => true
  | .sub_b => true
  | .sub_c => true
  | .sub_d => true
  | .sub_e => true
  | .sub_h => true
  | .sub_l => true
  | .sub_indHl => true
  | .sub_a => true
  | .sbc_a_b => true
  | .sbc_a_c => true
  | .sbc_a_d => true
  | .sbc_a_e => true
  | .sbc_a_h => true
  | .sbc_a_l => true
  | .sbc_a_indHl => true
  | .sbc_a_a => true
  | .and_b => true
  | .and_c => true
  | .and_d => true
  | .and_e => true
  | .and_h => true
  | .and_l => true
  | .and_indHl => true
  | .and_a => true
  | .xor_b => true
  | .xor_c => true
  | .xor_d => true
  | .xor_e => true
  | .xor_h => true
  | .xor_l => true
  | .xor_indHl => true
  | .xor_a => true
  | .or_b => true
  | .or_c => true
  | .or_d => true
  | .or_e => true
  | .or_h => true
  | .or_l => true
  | .or_indHl => true
  | .or_a => true
  | .cp_b => true
  | .cp_c => true
  | .cp_d => true
  | .cp_e => true
  | .cp_h => true
  | .cp_l => true
  | .cp_indHl => true
  | .cp_a => true
  | .pop_af => true
  | .rlc_b => true
  | .rlc_c => true
  | .rlc_d => true
  | .rlc_e => true
  | .rlc_h => true
  | .rlc_l => true
  | .rlc_indHl => true
  | .rlc_a => true
  | .rrc_b => true
  | .rrc_c => true
  | .rrc_d => true
  | .rrc_e => true
  | .rrc_h => true
  | .rrc_l => true
  | .rrc_indHl => true
  | .rrc_a => true
  | .rl_b => true
  | .rl_c => true
  | .rl_d => true
  | .rl_e => true
  | .rl_h => true
  | .rl_l => true
  | .rl_indHl => true
  | .rl_a => true
  | .rr_b => true
  | .rr_c => true
  | .rr_d => true
  | .rr_e => true
  | .rr_h => true
  | .rr_l => true
  | .rr_indHl => true
  | .rr_a => true
  | .sla_b => true
  | .sla_c => true
  | .sla_d => true
  | .sla_e => true
  | .sla_h => true
  | .sla_l => true
  | .sla_indHl => true
  | .sla_a => true
  | .sra_b => true
  | .sra_c => true
  | .sra_d => true
  | .sra_e => true
  | .sra_h => true
  | .sra_l => true
  | .sra_indHl => true
  | .sra_a => true
  | .swap_b => true
  | .swap_c => true
  | .swap_d => true
  | .swap_e => true
  | .swap_h => true
  | .swap_l => true
  | .swap_indHl => true
  | .swap_a => true
  | .srl_b => true
  | .srl_c => true
  | .srl_d => true
  | .srl_e => true
  | .srl_h => true
  | .srl_l => true
  | .srl_indHl => true
  | .srl_a => true
  | .bit_0_b => true
  | .bit_0_c => true
  | .bit_0_d => true
  | .bit_0_e => true
  | .bit_0_h => true
  | .bit_0_l => true
  | .bit_0_indHl => true
  | .bit_0_a => true
  | .bit_1_b => true
  | .bit_1_c => true
  | .bit_1_d => true
  | .bit_1_e => true
  | .bit_1_h => true
  | .bit_1_l => true
  | .bit_1_indHl => true
  | .bit_1_a => true
  | .bit_2_b => true
  | .bit_2_c => true
  | .bit_2_d => true
  | .bit_2_e => true
  | .bit_2_h => true
  | .bit_2_l => true
  | .bit_2_indHl => true
  | .bit_2_a => true
  | .bit_3_b => true
  | .bit_3_c => true
  | .bit_3_d => true
  | .bit_3_e => true
  | .bit_3_h => true
  | .bit_3_l => true
  | .bit_3_indHl => true
  | .bit_3_a => true
  | .bit_4_b => true
  | .bit_4_c => true
  | .bit_4_d => true
  | .bit_4_e => true
  | .bit_4_h => true
  | .bit_4_l => true
  | .bit_4_indHl => true
  | .bit_4_a => true
  | .bit_5_b => true
  | .bit_5_c => true
  | .bit_5_d => true
  | .bit_5_e => true
  | .bit_5_h => true
  | .bit_5_l => true
  | .bit_5_indHl => true
  | .bit_5_a => true
  | .bit_6_b => true
  | .bit_6_c => true
  | .bit_6_d => true
  | .bit_6_e => true
  | .bit_6_h => true
  | .bit_6_l => true
  | .bit_6_indHl => true
  | .bit_6_a => true
  | .bit_7_b => true
  | .bit_7_c => true
  | .bit_7_d => true
  | .bit_7_e => true
  | .bit_7_h => true
  | .bit_7_l => true
  | .bit_7_indHl => true
  | .bit_7_a => true
  | _ => false

/-- The device registers whose write stores bits and whose read shows them (20_memory.md R100, R102): the address, the bits a write
stores, the bits that read as 1. -/
def Sys2Proof.Rows.readBack : List (Word × Byte × Byte) :=
  [(0xFF05#16, 0xFF#8, 0x00#8), (0xFF06#16, 0xFF#8, 0x00#8), (0xFF07#16, 0x07#8, 0xF8#8),
   (0xFF0F#16, 0x1F#8, 0xE0#8), (0xFF40#16, 0xFF#8, 0x00#8), (0xFF42#16, 0xFF#8, 0x00#8),
   (0xFF43#16, 0xFF#8, 0x00#8), (0xFF45#16, 0xFF#8, 0x00#8), (0xFF46#16, 0xFF#8, 0x00#8),
   (0xFF47#16, 0xFF#8, 0x00#8), (0xFF48#16, 0xFF#8, 0x00#8), (0xFF49#16, 0xFF#8, 0x00#8),
   (0xFF4A#16, 0xFF#8, 0x00#8), (0xFF4B#16, 0xFF#8, 0x00#8), (0xFFFF#16, 0x1F#8, 0x00#8)]

/-- Words written out from the encoding columns of 30_encoding.md R148 and R149, with the instruction each stands for. -/
def Sys2Proof.Rows.sampleWords : List (List Byte × Instr) :=
  [([0x00#8], .nop), ([0x3E#8, 0x05#8], .ld_a_n 0x05#8), ([0x01#8, 0x34#8, 0x12#8], .ld_bc_nn 0x1234#16),
   ([0x77#8], .ld_indHl_a), ([0x5E#8], .ld_e_indHl), ([0x08#8, 0x00#8, 0xC1#8], .ld_indNn_sp 0xC100#16),
   ([0x8B#8], .adc_a_e), ([0x9C#8], .sbc_a_h), ([0xFE#8, 0x3C#8], .cp_n 0x3C#8), ([0x35#8], .dec_indHl),
   ([0x39#8], .add_hl_sp), ([0xE8#8, 0xFF#8], .add_sp_e 0xFF#8), ([0x1F#8], .rra), ([0xCB#8, 0x37#8], .swap_a),
   ([0xCB#8, 0x66#8], .bit_4_indHl), ([0xCB#8, 0xD8#8], .set_3_b),
   ([0xC2#8, 0x00#8, 0x02#8], .jp_nz_nn 0x0200#16), ([0x38#8, 0x05#8], .jr_c_e 0x05#8),
   ([0xD4#8, 0x34#8, 0x12#8], .call_nc_nn 0x1234#16), ([0xD9#8], .reti), ([0xFF#8], .rst_38), ([0x76#8], .halt),
   ([0x10#8, 0x7E#8], .stop 0x7E#8), ([0xFB#8], .ei), ([0xDD#8], .undefined 0xDD#8)]

/-- The result of a rotate or shift on numbers (R320 to R339): `v` the operand, `c` the carry before, both as numbers. -/
def Sys2Proof.Rows.rotated (v c : Nat) : RotOp → Nat
  | .rlc => (2 * v + v / 128) % 256
  | .rrc => v / 2 + 128 * (v % 2)
  | .rl => (2 * v + c) % 256
  | .rr => v / 2 + 128 * c
  | .sla => 2 * v % 256
  | .sra => v / 2 + 128 * (v / 128)
  | .swap => 16 * (v % 16) + v / 16
  | .srl => v / 2

/-- The bit a rotate or shift moves out, on numbers (R320 to R339). -/
def Sys2Proof.Rows.rotatedOut (v : Nat) : RotOp → Bool
  | .rlc | .rl | .sla => decide (v / 128 = 1)
  | .rrc | .rr | .sra | .srl => decide (v % 2 = 1)
  | .swap => false

/-- F with Z, N, H, C in bits 7, 6, 5, 4 and 0 below, as a number (R32). -/
def Sys2Proof.Rows.flagByte (z n h c : Bool) : Byte :=
  BitVec.ofNat 8 (128 * z.toNat + 64 * n.toNat + 32 * h.toNat + 16 * c.toNat)

/-- The C flag as a number. -/
def Sys2Proof.Rows.carry (s : State) : Nat := (s.f.getLsbD 4).toNat

/-- What `push16(w)` leaves (R226): the high byte at SP - 1, then the low byte at SP - 2, and SP 2 less. -/
def Sys2Proof.Rows.pushed (s : State) (w : Word) : State :=
  { memWrite (memWrite s (s.sp - 1) (hi w)) (s.sp - 2) (lo w) with sp := s.sp - 2 }

/-- A target that is plain storage: what is written is what is read, and nothing else changes (R86 to R90, R101). -/
def Sys2Proof.Rows.isRam : BusTarget → Bool
  | .vram _ | .eram _ | .wram _ | .oam _ | .hram _ => true
  | _ => false

/-- A Running machine whose coming step begins with neither a host event nor a dispatch. -/
def Sys2Proof.Rows.atFetch (s : State) : Prop :=
  s.hostEvents = [] ∧ s.cpuMode = .running ∧ noDispatch s = true

/-- The two decimal digits of a number below 100. -/
def Sys2Proof.Rows.bcd (x : Nat) : Byte := BitVec.ofNat 8 (16 * (x / 10) + x % 10)

/-- The OAM indices of the sprites of a line (R483): the first ten whose rows y - 16 to y - 16 + h - 1 hold the line. -/
def Sys2Proof.Rows.lineSprites (s : State) (ly : Nat) : List Nat :=
  ((List.range 40).filter fun i => decide ((s.oam.read (4 * i)).toNat ≤ ly + 16) &&
    decide (ly + 16 < (s.oam.read (4 * i)).toNat + (if s.lcdc.getLsbD 2 = true then 16 else 8))).take 10

/-- The sprite of an OAM index covers the column and is not transparent there (R484, R485). -/
def Sys2Proof.Rows.shows (s : State) (ly x i : Nat) : Prop :=
  (spriteAt s i).x.toNat ≤ x + 8 ∧ x < (spriteAt s i).x.toNat ∧ spriteIndex s ly x (spriteAt s i) ≠ 0#2

/-- The code of an 8-bit register (R142). -/
def Sys2Proof.Rows.regCode : Reg8 → Nat
  | .b => 0
  | .c => 1
  | .d => 2
  | .e => 3
  | .h => 4
  | .l => 5
  | .a => 7

/-- The code of an 8-bit operand (R142). -/
def Sys2Proof.Rows.locCode : Loc8 → Nat
  | .reg r => regCode r
  | .indHl => 6

/-- The code of a pair of selector dd (R143). -/
def Sys2Proof.Rows.pairCode : Reg16 → Nat
  | .bc => 0
  | .de => 1
  | .hl => 2
  | .sp => 3

/-- The code of a pair of selector qq (R143). -/
def Sys2Proof.Rows.stackPairCode : StackPair → Nat
  | .bc => 0
  | .de => 1
  | .hl => 2
  | .af => 3

/-- The code of a rotate or shift (R145). -/
def Sys2Proof.Rows.rotCode : RotOp → Nat
  | .rlc => 0
  | .rrc => 1
  | .rl => 2
  | .rr => 3
  | .sla => 4
  | .sra => 5
  | .swap => 6
  | .srl => 7

/-- The device registers of the I/O page with what each reads (20_memory.md R100; the layouts of 10_state.md R45 to R66): the
fields at their bits, unused bits as 1. -/
def Sys2Proof.Rows.ioReads (s : State) : List (Word × Byte) :=
  [(0xFF00#16, BitVec.ofNat 8 (192 + 16 * s.sel.toNat +
      ((if s.sel.getLsbD 0 = true then 0xF#4 else s.dirRow) &&& (if s.sel.getLsbD 1 = true then 0xF#4 else s.actRow)).toNat)),
   (0xFF04#16, s.div), (0xFF05#16, s.tima), (0xFF06#16, s.tma), (0xFF07#16, BitVec.ofNat 8 (248 + s.tac.toNat)),
   (0xFF0F#16, BitVec.ofNat 8 (224 + s.ifReg.toNat)), (0xFF40#16, s.lcdc),
   (0xFF41#16, BitVec.ofNat 8 (128 + 8 * s.statEn.toNat + 4 * s.coincidence.toNat +
      (match s.ppuMode with | .hblank => 0 | .vblank => 1 | .oamScan => 2 | .drawLine => 3))),
   (0xFF42#16, s.scy), (0xFF43#16, s.scx), (0xFF44#16, s.ly), (0xFF45#16, s.lyc), (0xFF46#16, s.dmaLast),
   (0xFF47#16, s.bgp), (0xFF48#16, s.obp0), (0xFF49#16, s.obp1), (0xFF4A#16, s.wy), (0xFF4B#16, s.wx), (0xFF50#16, 0xFF#8)]

/-- The registers whose write stores a field and does nothing else, with the whole state a write of v leaves (20_memory.md R100,
R102, R103). DIV's write clears its accumulator too; LY ignores a write; 0xFF50 unmaps the boot ROM unless v is 0. -/
def Sys2Proof.Rows.ioWrites (s : State) (v : Byte) : List (Word × State) :=
  [(0xFF00#16, { s with sel := BitVec.ofNat 2 (v.toNat / 16) }), (0xFF04#16, { s with div := 0x00#8, divAcc := 0 }),
   (0xFF05#16, { s with tima := v }), (0xFF06#16, { s with tma := v }), (0xFF07#16, { s with tac := BitVec.ofNat 3 v.toNat }),
   (0xFF0F#16, { s with ifReg := BitVec.ofNat 5 v.toNat }), (0xFF40#16, { s with lcdc := v }),
   (0xFF41#16, { s with statEn := BitVec.ofNat 4 (v.toNat / 8) }), (0xFF42#16, { s with scy := v }),
   (0xFF43#16, { s with scx := v }), (0xFF44#16, s), (0xFF47#16, { s with bgp := v }), (0xFF48#16, { s with obp0 := v }),
   (0xFF49#16, { s with obp1 := v }), (0xFF4A#16, { s with wy := v }), (0xFF4B#16, { s with wx := v }),
   (0xFF50#16, { s with bootMapped := s.bootMapped && decide (v = 0x00#8) }),
   (0xFFFF#16, { s with ieReg := BitVec.ofNat 5 v.toNat })]

/-- A byte given as a number. -/
def Sys2Proof.Rows.byte (n : Nat) : Byte := BitVec.ofNat 8 n

/-- The bytes of ALU operation `op` (R145) with an operand: 10yyyzzz, or 11yyy110 and the immediate. -/
def Sys2Proof.Rows.aluBytes (op : Nat) : Src8 → List Byte
  | .reg r => [byte (0x80 + 8 * op + regCode r)]
  | .indHl => [byte (0x86 + 8 * op)]
  | .imm n => [byte (0xC6 + 8 * op), n]

/-- The bytes of the CB instruction with fields x, y and an operand (R141, R149). -/
def Sys2Proof.Rows.cbBytes (x y : Nat) (loc : Loc8) : List Byte := [0xCB#8, byte (64 * x + 8 * y + locCode loc)]

open Sys2Proof.Rows

/-! ## Encoding -/

/-- R140, R146, R148, R149, R151: decoding the bytes of a well-formed instruction, whatever follows them, gives the
instruction back, with every operand at every value, and leaves what follows. -/
def Obligations.DecodeOfEncodeIsTheInstruction : Prop :=
  ∀ (i : Instr) (rest : List Byte), i.wf = true → decode (encode i ++ rest) = .ok (i, rest)

/-- R148, R149, R151, the other direction: what three bytes decode to is well formed, and its bytes are the first bytes
read, as many as the first byte says. -/
def Obligations.EncodeOfDecodeIsTheBytes : Prop :=
  ∀ b0 b1 b2 : Byte,
    (decodeBytes b0 b1 b2).wf = true ∧
    encode (decodeBytes b0 b1 b2) = [b0, b1, b2].take (lengthOfOpcode b0)

/-- R148, R149: words written out from the maps decode to the instructions they stand for. -/
def Obligations.SampleWordsDecode : Prop :=
  ∀ row ∈ sampleWords, decode row.1 = .ok (row.2, [])

/-- R150: exactly the eleven listed bytes, and no CB byte, decode to an undefined opcode, which carries the byte itself. -/
def Obligations.ElevenBytesAreUndefined : Prop :=
  ∀ b0 b1 b2 b : Byte,
    decodeBytes b0 b1 b2 = .undefined b ↔
      b = b0 ∧ b0 ∈ [0xD3#8, 0xDB#8, 0xDD#8, 0xE3#8, 0xE4#8, 0xEB#8, 0xEC#8, 0xED#8, 0xF4#8, 0xFC#8, 0xFD#8]

/-- R395: the prefix with a CB byte runs the instruction that the CB map of R149 gives the byte; it completes for each of the
256 bytes. The left side splits the byte into the fields of R141 and R145, the right side reads the map (log 7). -/
def Obligations.PrefixRunsTheCbMap : Prop :=
  ∀ (b2 : Byte) (s : State),
    exec (.prefix_cb b2) s = exec (decodeCb b2) s ∧ ∃ t, exec (.prefix_cb b2) s = .next t

/-! ## The step -/

/-- R420, R421, R530: when the bytes at PC decode to a well-formed instruction, a step with no event and no dispatch before it is
that instruction's `exec` at the same state with the cycle count at 0, then the EI latch, then the pixel processor and the
timer with the step's cycles. Where the host's schedule holds a batch for this step, its events are applied in their order, the
batch leaves the schedule, and the step goes on as with an empty schedule, to a next state or to the fault. The cycle count and
the schedule are the model's own fields: logs 4 and 5. The count is not architectural (10_state.md R71): neither a step nor
anything the host reads depends on what it holds before. -/
def Obligations.StepRunsTheDecodedInstruction : Prop :=
  (∀ (s t : State) (i : Instr) (rest : List Byte),
    atFetch s → i.wf = true →
    decode [memRead s s.pc, memRead s (s.pc + 1), memRead s (s.pc + 2)] = .ok (i, rest) →
    exec i { s with cycles := 0 } = .next t →
    step s = .next (timerTick (eiLatch i t).cycles (ppuStep (eiLatch i t).cycles (eiLatch i t)))) ∧
  (∀ (s u : State) (batch : List KeyEvent) (later : List (List KeyEvent)), s.hostEvents = batch :: later →
    u = { batch.foldl applyKeyEvent s with hostEvents := [] } →
    (∀ t, step u = .next t → step s = .next { t with hostEvents := later }) ∧
    (∀ r, step u = .fault r → step s = .fault r)) ∧
  (∀ (s : State) (row : KeyRow) (k : Fin 4),
    applyKeyEvent s (.down row k) = keyDown row k s ∧ applyKeyEvent s (.up row k) = keyUp row k s) ∧
  (∀ (s : State) (n : Nat), step { s with cycles := n } = step s ∧ hostSnapshot { s with cycles := n } = hostSnapshot s ∧
    (∀ addr, hostReadByte { s with cycles := n } addr = hostReadByte s addr) ∧
    ∀ y x, hostPixel { s with cycles := n } y x = hostPixel s y x)

/-- R510, R104, R249: no instruction traps or stops: `exec` answers a next state for every instruction and state. A step stops
exactly at a Faulted machine, with the recorded address and byte, and never refuses (logs 6, 7). -/
def Obligations.OnlyAFaultedMachineStops : Prop :=
  (∀ (i : Instr) (s : State), ∃ t, exec i s = .next t) ∧
  (∀ s r, step s = .fault r ↔
    ∃ pc byte, (applyHostEvents s).cpuMode = .faulted .decodeError pc byte ∧ r = .decodeErrorFaulted pc byte) ∧
  (∀ s r, step s ≠ .refused r)

/-- R32, R35, R39, R40, R41, R47, R58, R396, R460, R462, R467 as one invariant: a step from a legal state leads to a legal
state. The bound on tima_acc is the model's inference: log 17. -/
def Obligations.StepKeepsLegal : Prop :=
  ∀ s t : State, Legal s → step s = .next t → Legal t

/-- The state after reset is legal. -/
def Obligations.ResetIsLegal : Prop := Legal State.reset

/-- R39, R41, R103, R8: no step changes the ROM, its size, the boot ROM, the cartridge kind or HALT_WAKE_NEEDS_IE, and none
maps the boot ROM again. -/
def Obligations.StepKeepsLaunchState : Prop :=
  ∀ s t : State, step s = .next t →
    t.rom = s.rom ∧ t.romSize = s.romSize ∧ t.boot = s.boot ∧ t.cartBanked = s.cartBanked ∧
    t.haltWakeNeedsIe = s.haltWakeNeedsIe ∧ (s.bootMapped = false → t.bootMapped = false)

/-! ## Launch and reset -/

/-- R70 and R540, both columns, for every launch that is not refused: the draws are the launch's arguments, what a list of
bytes does not reach is 0x00 (log 1), and the drawn F loses its low bits (log 18). HALT_WAKE_NEEDS_IE is the launch's argument
(R8; a field of State: log 3). -/
def Obligations.LaunchGivesTheResetValues : Prop :=
  ∀ (p : LaunchParams) (s : State), launch p = .ok s →
    (p.boot = none →
      s.a = 0x01#8 ∧ s.f = 0xB0#8 ∧ s.b = 0x00#8 ∧ s.c = 0x13#8 ∧ s.d = 0x00#8 ∧ s.e = 0xD8#8 ∧ s.h = 0x01#8 ∧
      s.l = 0x4D#8 ∧ s.sp = 0xFFFE#16 ∧ s.pc = 0x0100#16 ∧ s.bootMapped = false ∧ s.dmaLast = 0xFF#8 ∧
      s.ifReg = 0x01#5 ∧ s.lcdc = 0x91#8 ∧ s.bgp = 0xFC#8 ∧ s.obp0 = 0xFF#8 ∧ s.obp1 = 0xFF#8) ∧
    (∀ bytes, p.boot = some bytes →
      s.a = p.regs.a ∧ s.f = p.regs.f &&& 0xF0#8 ∧ s.b = p.regs.b ∧ s.c = p.regs.c ∧ s.d = p.regs.d ∧
      s.e = p.regs.e ∧ s.h = p.regs.h ∧ s.l = p.regs.l ∧ s.sp = p.regs.sp ∧ s.pc = 0x0000#16 ∧
      s.bootMapped = true ∧ s.dmaLast = 0x00#8 ∧ s.ifReg = 0x00#5 ∧ s.lcdc = 0x00#8 ∧ s.bgp = 0x00#8 ∧
      s.obp0 = 0x00#8 ∧ s.obp1 = 0x00#8 ∧
      (∀ addr : Word, addr.toNat < 256 → memRead s addr = bytes.getD addr.toNat 0x00#8)) ∧
    s.haltWakeNeedsIe = p.haltWakeNeedsIe ∧ (s.boot.isSome = true ↔ p.boot.isSome = true) ∧
    s.cpuMode = .running ∧ s.ime = false ∧ s.eiPending = false ∧
    s.romBank = 1#7 ∧ s.ramBank = 0#2 ∧ s.ramEnabled = false ∧ s.bankingMode = 0#1 ∧
    s.ieReg = 0x00#5 ∧ s.div = 0x00#8 ∧ s.divAcc = 0 ∧ s.tima = 0x00#8 ∧ s.tma = 0x00#8 ∧ s.tac = 0#3 ∧
    s.timaAcc = 0 ∧ s.statEn = 0#4 ∧ s.ppuMode = .oamScan ∧ s.modeClock = 0 ∧ s.ly = 0x00#8 ∧ s.lyc = 0x00#8 ∧
    s.coincidence = true ∧ s.scy = 0x00#8 ∧ s.scx = 0x00#8 ∧ s.wy = 0x00#8 ∧ s.wx = 0x00#8 ∧
    (∀ y x, hostPixel s y x = 0#2) ∧ s.sel = 0b11#2 ∧ s.dirRow = 0xF#4 ∧ s.actRow = 0xF#4 ∧
    (∀ k, k < 8192 → s.wram.read k = p.mem.wram.getD k 0x00#8) ∧
    (∀ k, k < 127 → s.hram.read k = p.mem.hram.getD k 0x00#8) ∧
    (∀ k, k < 8192 → s.vram.read k = p.mem.vram.getD k 0x00#8) ∧
    (∀ k, k < 160 → s.oam.read k = p.mem.oam.getD k 0x00#8) ∧
    (∀ k, k < (if s.cartBanked then 32768 else 8192) → s.eram.read k = p.mem.eram.getD k 0x00#8)

/-- R92, R541: a launch is refused exactly when a precondition is broken; otherwise the machine is legal, its ROM is the
image, and its cartridge kind is the type byte's. -/
def Obligations.LaunchIsRefusedOrLegal : Prop :=
  ∀ p : LaunchParams,
    ((∃ s, launch p = .ok s) ↔
      p.rom.length % 0x4000 = 0 ∧ 0x8000 ≤ p.rom.length ∧ (p.rom.getD 0x0147 0xFF#8).toNat < 4 ∧
      ∀ bytes, p.boot = some bytes → bytes.length = 256) ∧
    ∀ s, launch p = .ok s →
      Legal s ∧ s.romSize = p.rom.length ∧ (∀ k, k < p.rom.length → s.rom.read k = p.rom.getD k 0x00#8) ∧
      (s.cartBanked = true ↔ p.rom.getD 0x0147 0x00#8 ≠ 0x00#8)

/-- The model's choice (logs 1, 2): the reset state is the launch, without a boot ROM and with the default parameter, of a
32 KiB image of zero bytes, its RAMs drawn as zero. -/
def Obligations.ResetIsALaunch : Prop :=
  ∀ regs : ResetRegs,
    launch { rom := List.replicate 0x8000 0x00#8, boot := none, regs := regs
             mem := { wram := [], hram := [], vram := [], oam := [], eram := [] }
             haltWakeNeedsIe := false } = .ok State.reset

/-! ## Registers and flags -/

/-- R31, R32: the pairs are views, a write of a pair is a write of its two registers, it is read back whole, and AF without its
four low bits. A write of a register, of a pair or of SP changes that alone, of the whole state. F has Z, N, H, C in bits 7, 6,
5, 4; every instruction leaves F or writes it with F[3:0] = 0, no step does otherwise, and every launch starts with F[3:0] = 0. -/
def Obligations.RegistersAndPairViews : Prop :=
  (∀ (s : State) (r r' : Reg8) (v : Byte), (s.setReg r v).reg r' = if r' = r then v else s.reg r') ∧
  (∀ (s : State) (r : Reg8) (v : Byte), s.setReg r v = { s with
    a := if r = .a then v else s.a, b := if r = .b then v else s.b, c := if r = .c then v else s.c
    d := if r = .d then v else s.d, e := if r = .e then v else s.e, h := if r = .h then v else s.h
    l := if r = .l then v else s.l }) ∧
  (∀ (s : State) (p : Reg16) (w : Word), (s.setReg16 p w).reg16 p = w) ∧
  (∀ (s : State) (q : StackPair) (w : Word), (s.setStackPair q w).stackPair q = if q = .af then w &&& 0xFFF0#16 else w) ∧
  (∀ (s : State) (w : Word) (x y : Byte), x.toNat = w.toNat / 256 → y.toNat = w.toNat % 256 →
    s.setReg16 .bc w = { s with b := x, c := y } ∧ s.setReg16 .de w = { s with d := x, e := y } ∧
    s.setReg16 .hl w = { s with h := x, l := y } ∧ s.setReg16 .sp w = { s with sp := w } ∧
    s.setStackPair .bc w = { s with b := x, c := y } ∧ s.setStackPair .de w = { s with d := x, e := y } ∧
    s.setStackPair .hl w = { s with h := x, l := y } ∧ s.setStackPair .af w = { s with a := x, f := y &&& 0xF0#8 }) ∧
  (∀ s : State, s.af.toNat = 256 * s.a.toNat + s.f.toNat ∧ s.bc.toNat = 256 * s.b.toNat + s.c.toNat ∧
    s.de.toNat = 256 * s.d.toNat + s.e.toNat ∧ s.hl.toNat = 256 * s.h.toNat + s.l.toNat) ∧
  (∀ fl : Flags, packFlags fl = flagByte fl.z fl.n fl.h fl.c ∧ packFlags fl &&& 0x0F#8 = 0x00#8) ∧
  (∀ (i : Instr) (s t : State), exec i s = .next t → t.f = s.f ∨ t.f &&& 0x0F#8 = 0x00#8) ∧
  (∀ s t : State, step s = .next t → t.f = s.f ∨ t.f &&& 0x0F#8 = 0x00#8) ∧
  (∀ (p : LaunchParams) (s : State), launch p = .ok s → s.f &&& 0x0F#8 = 0x00#8)

/-- R33's rows of instructions that write no flag: RES, SET, loads, jumps, PUSH, every POP but POP AF, 16-bit INC and DEC, and
the system instructions leave F as it was. -/
def Obligations.OtherInstructionsLeaveFlags : Prop :=
  ∀ (i : Instr) (s t : State), mayWriteFlags i = false → exec i s = .next t → t.f = s.f

/-- The instructions that store nothing leave every byte of memory, and every device register with it, as it was: nothing but
the registers, SP, PC, the CPU's control state and the cycle count may differ. -/
def Obligations.NonStoringInstructionsLeaveMemory : Prop :=
  ∀ (i : Instr) (s t : State), mayStore i = false → exec i s = .next t →
    (∀ addr, memRead t addr = memRead s addr) ∧
    t = { s with a := t.a, f := t.f, b := t.b, c := t.c, d := t.d, e := t.e, h := t.h, l := t.l, sp := t.sp
                 pc := t.pc, cpuMode := t.cpuMode, ime := t.ime, eiPending := t.eiPending, cycles := t.cycles }

/-! ## Loads, stores and the stack -/

/-- R200, R203: LD r,r' and LD r,n write the destination register, and nothing else but PC and the cycle count changes. -/
def Obligations.RegisterLoads : Prop :=
  (∀ row ∈ regFromReg, ∀ s : State,
    encode row.1 = [byte (0x40 + 8 * regCode row.2.1 + regCode row.2.2)] ∧
    exec row.1 s = .next { s.setReg row.2.1 (s.reg row.2.2) with pc := s.pc + 1, cycles := s.cycles + 4 }) ∧
  (∀ n : Byte, ∀ row ∈ regFromImm n, ∀ s : State,
    encode row.1 = [byte (0x06 + 8 * regCode row.2), n] ∧
    exec row.1 s = .next { s.setReg row.2 n with pc := s.pc + 2, cycles := s.cycles + 8 })

/-- R201, R205, R206, R209, R211, R213: a load from memory writes the byte at the form's address into its destination; the
address is formed before the register is written. -/
def Obligations.MemoryLoads : Prop :=
  ∀ (n : Byte) (nn : Word), ∀ row ∈ regFromMem n nn, ∀ s : State,
    encode row.1 = row.2.1 ∧
    exec row.1 s = .next { s.setReg row.2.2.1 (memRead s (row.2.2.2.1 s)) with
      pc := s.pc + BitVec.ofNat 16 row.2.1.length, cycles := s.cycles + row.2.2.2.2 }

/-- R202, R204, R207, R208, R210, R212, R214: a store is one bus write of the form's byte at the form's address. -/
def Obligations.MemoryStores : Prop :=
  ∀ (n : Byte) (nn : Word), ∀ row ∈ memFromReg n nn, ∀ s : State,
    encode row.1 = row.2.1 ∧
    exec row.1 s = .next { memWrite s (row.2.2.1 s) (row.2.2.2.1 s) with
      pc := s.pc + BitVec.ofNat 16 row.2.1.length, cycles := s.cycles + row.2.2.2.2 }

/-- R215 to R218: the (HL+) and (HL-) forms access the byte at HL and then move HL by one, modulo 2^16; no flag changes. -/
def Obligations.PostStepLoadsAndStores : Prop :=
  ∀ s : State,
    encode .ld_a_indHlInc = [0x2A#8] ∧ encode .ld_a_indHlDec = [0x3A#8] ∧
    encode .ld_indHlInc_a = [0x22#8] ∧ encode .ld_indHlDec_a = [0x32#8] ∧
    (∃ t, exec .ld_a_indHlInc s = .next t ∧ t.hl.toNat = (s.hl.toNat + 1) % 65536 ∧
      t = { s with a := memRead s s.hl, h := t.h, l := t.l, pc := s.pc + 1, cycles := s.cycles + 8 }) ∧
    (∃ t, exec .ld_a_indHlDec s = .next t ∧ t.hl.toNat = (s.hl.toNat + 65535) % 65536 ∧
      t = { s with a := memRead s s.hl, h := t.h, l := t.l, pc := s.pc + 1, cycles := s.cycles + 8 }) ∧
    (∃ t, exec .ld_indHlInc_a s = .next t ∧ t.hl.toNat = (s.hl.toNat + 1) % 65536 ∧
      t = { memWrite s s.hl s.a with h := t.h, l := t.l, pc := s.pc + 1, cycles := s.cycles + 8 }) ∧
    (∃ t, exec .ld_indHlDec_a s = .next t ∧ t.hl.toNat = (s.hl.toNat + 65535) % 65536 ∧
      t = { memWrite s s.hl s.a with h := t.h, l := t.l, pc := s.pc + 1, cycles := s.cycles + 8 })

/-- R219, R220, R221: LD rr,nn; LD SP,HL; LD (nn),SP, whose low byte goes to nn and whose high byte to nn + 1. -/
def Obligations.WordLoads : Prop :=
  (∀ nn : Word, ∀ row ∈ pairs nn, ∀ s : State,
    encode row.1.1 = [byte (0x01 + 16 * pairCode row.2), lo nn, hi nn] ∧
    exec row.1.1 s = .next { s.setReg16 row.2 nn with pc := s.pc + 3, cycles := s.cycles + 12 }) ∧
  encode .ld_sp_hl = [0xF9#8] ∧
  (∀ s : State, exec .ld_sp_hl s = .next { s with sp := s.hl, pc := s.pc + 1, cycles := s.cycles + 8 }) ∧
  (∀ (nn : Word) (s : State),
    encode (.ld_indNn_sp nn) = [0x08#8, lo nn, hi nn] ∧
    exec (.ld_indNn_sp nn) s = .next { memWrite (memWrite s nn (lo s.sp)) (nn + 1) (hi s.sp) with
      pc := s.pc + 3, cycles := s.cycles + 20 })

/-- R226 to R230: PUSH stores the pair's high byte at SP - 1 and its low byte at SP - 2; POP takes the low byte at SP and the
high byte at SP + 1, and POP AF drops F[3:0]. -/
def Obligations.PushAndPop : Prop :=
  ∀ row ∈ stackPairs, ∀ s : State,
    encode row.1.1 = [byte (0xC5 + 16 * stackPairCode row.2)] ∧ encode row.1.2 = [byte (0xC1 + 16 * stackPairCode row.2)] ∧
    exec row.1.1 s = .next { pushed s (s.stackPair row.2) with pc := s.pc + 1, cycles := s.cycles + 16 } ∧
    exec row.1.2 s = .next { { s with sp := s.sp + 2 }.setStackPair row.2
      (word (memRead s (s.sp + 1)) (memRead s s.sp)) with pc := s.pc + 1, cycles := s.cycles + 12 }

/-- R227: with the stack bytes in plain memory, POP after PUSH of the same pair gives the pair back (AF as F's low bits
allow) and restores SP. -/
def Obligations.PopUndoesPush : Prop :=
  ∀ row ∈ stackPairs, ∀ s : State, StorageLegal s → s.f &&& 0x0F#8 = 0x00#8 →
    isRam (busTarget s (s.sp - 1)) = true → isRam (busTarget s (s.sp - 2)) = true →
    ∃ t u, exec row.1.1 s = .next t ∧ exec row.1.2 t = .next u ∧
      u.stackPair row.2 = s.stackPair row.2 ∧ u.sp = s.sp

/-! ## 8-bit arithmetic and logic -/

/-- R245, R250 to R255: ADD and ADC. -/
def Obligations.AddAndAdc : Prop :=
  (∀ n : Byte, ∀ row ∈ addForms n, ∀ s : State,
    encode row.1 = aluBytes 0 row.2.1 ∧
    exec row.1 s = .next { s with
      a := BitVec.ofNat 8 (s.a.toNat + (readSrc s row.2.1).toNat)
      f := flagByte (decide ((s.a.toNat + (readSrc s row.2.1).toNat) % 256 = 0)) false
        (decide (s.a.toNat % 16 + (readSrc s row.2.1).toNat % 16 > 15))
        (decide (s.a.toNat + (readSrc s row.2.1).toNat > 255))
      pc := s.pc + row.2.2.1, cycles := s.cycles + row.2.2.2 }) ∧
  (∀ n : Byte, ∀ row ∈ adcForms n, ∀ s : State,
    encode row.1 = aluBytes 1 row.2.1 ∧
    exec row.1 s = .next { s with
      a := BitVec.ofNat 8 (s.a.toNat + (readSrc s row.2.1).toNat + carry s)
      f := flagByte (decide ((s.a.toNat + (readSrc s row.2.1).toNat + carry s) % 256 = 0)) false
        (decide (s.a.toNat % 16 + (readSrc s row.2.1).toNat % 16 + carry s > 15))
        (decide (s.a.toNat + (readSrc s row.2.1).toNat + carry s > 255))
      pc := s.pc + row.2.2.1, cycles := s.cycles + row.2.2.2 })

/-- R246, R256 to R261, R271 to R273: SUB, SBC and CP; CP writes no A. -/
def Obligations.SubSbcAndCp : Prop :=
  (∀ n : Byte, ∀ row ∈ subForms n, ∀ s : State,
    encode row.1 = aluBytes 2 row.2.1 ∧
    exec row.1 s = .next { s with
      a := BitVec.ofNat 8 (s.a.toNat + 256 - (readSrc s row.2.1).toNat)
      f := flagByte (decide (s.a.toNat = (readSrc s row.2.1).toNat)) true
        (decide (s.a.toNat % 16 < (readSrc s row.2.1).toNat % 16))
        (decide (s.a.toNat < (readSrc s row.2.1).toNat))
      pc := s.pc + row.2.2.1, cycles := s.cycles + row.2.2.2 }) ∧
  (∀ n : Byte, ∀ row ∈ sbcForms n, ∀ s : State,
    encode row.1 = aluBytes 3 row.2.1 ∧
    exec row.1 s = .next { s with
      a := BitVec.ofNat 8 (s.a.toNat + 512 - (readSrc s row.2.1).toNat - carry s)
      f := flagByte (decide ((s.a.toNat + 512 - (readSrc s row.2.1).toNat - carry s) % 256 = 0)) true
        (decide (s.a.toNat % 16 < (readSrc s row.2.1).toNat % 16 + carry s))
        (decide (s.a.toNat < (readSrc s row.2.1).toNat + carry s))
      pc := s.pc + row.2.2.1, cycles := s.cycles + row.2.2.2 }) ∧
  (∀ n : Byte, ∀ row ∈ cpForms n, ∀ s : State,
    encode row.1 = aluBytes 7 row.2.1 ∧
    exec row.1 s = .next { s with
      f := flagByte (decide (s.a.toNat = (readSrc s row.2.1).toNat)) true
        (decide (s.a.toNat % 16 < (readSrc s row.2.1).toNat % 16))
        (decide (s.a.toNat < (readSrc s row.2.1).toNat))
      pc := s.pc + row.2.2.1, cycles := s.cycles + row.2.2.2 })

/-- R247, R262 to R270: AND, XOR and OR. -/
def Obligations.AndXorOr : Prop :=
  (∀ n : Byte, ∀ row ∈ andForms n, ∀ s : State,
    encode row.1 = aluBytes 4 row.2.1 ∧
    exec row.1 s = .next { s with
      a := s.a &&& readSrc s row.2.1
      f := flagByte (decide (s.a &&& readSrc s row.2.1 = 0x00#8)) false true false
      pc := s.pc + row.2.2.1, cycles := s.cycles + row.2.2.2 }) ∧
  (∀ n : Byte, ∀ row ∈ xorForms n, ∀ s : State,
    encode row.1 = aluBytes 5 row.2.1 ∧
    exec row.1 s = .next { s with
      a := s.a ^^^ readSrc s row.2.1
      f := flagByte (decide (s.a = readSrc s row.2.1)) false false false
      pc := s.pc + row.2.2.1, cycles := s.cycles + row.2.2.2 }) ∧
  (∀ n : Byte, ∀ row ∈ orForms n, ∀ s : State,
    encode row.1 = aluBytes 6 row.2.1 ∧
    exec row.1 s = .next { s with
      a := s.a ||| readSrc s row.2.1
      f := flagByte (decide (s.a = 0x00#8 ∧ readSrc s row.2.1 = 0x00#8)) false false false
      pc := s.pc + row.2.2.1, cycles := s.cycles + row.2.2.2 })

/-- R248, R274 to R277: INC and DEC of a register and of the byte at HL; C stays. -/
def Obligations.IncAndDec8 : Prop :=
  (∀ row ∈ incDecReg, ∀ s : State,
    encode row.1 = [byte (0x04 + 8 * regCode row.2.2)] ∧ encode row.2.1 = [byte (0x05 + 8 * regCode row.2.2)] ∧
    exec row.1 s = .next { s.setReg row.2.2 (BitVec.ofNat 8 ((s.reg row.2.2).toNat + 1)) with
      f := flagByte (decide ((s.reg row.2.2).toNat = 255)) false (decide ((s.reg row.2.2).toNat % 16 = 15)) (s.f.getLsbD 4)
      pc := s.pc + 1, cycles := s.cycles + 4 } ∧
    exec row.2.1 s = .next { s.setReg row.2.2 (BitVec.ofNat 8 ((s.reg row.2.2).toNat + 255)) with
      f := flagByte (decide ((s.reg row.2.2).toNat = 1)) true (decide ((s.reg row.2.2).toNat % 16 = 0)) (s.f.getLsbD 4)
      pc := s.pc + 1, cycles := s.cycles + 4 }) ∧
  (∀ s : State,
    encode .inc_indHl = [0x34#8] ∧ encode .dec_indHl = [0x35#8] ∧
    exec .inc_indHl s = .next { memWrite s s.hl (BitVec.ofNat 8 ((memRead s s.hl).toNat + 1)) with
      f := flagByte (decide ((memRead s s.hl).toNat = 255)) false (decide ((memRead s s.hl).toNat % 16 = 15)) (s.f.getLsbD 4)
      pc := s.pc + 1, cycles := s.cycles + 12 } ∧
    exec .dec_indHl s = .next { memWrite s s.hl (BitVec.ofNat 8 ((memRead s s.hl).toNat + 255)) with
      f := flagByte (decide ((memRead s s.hl).toNat = 1)) true (decide ((memRead s s.hl).toNat % 16 = 0)) (s.f.getLsbD 4)
      pc := s.pc + 1, cycles := s.cycles + 12 })

/-- R278 to R281: DAA, its correction as numbers; CPL, SCF and CCF, where Z stays in all and C in CPL. -/
def Obligations.DaaCplScfCcf : Prop :=
  ∀ s : State,
    encode .daa = [0x27#8] ∧ encode .cpl = [0x2F#8] ∧ encode .scf = [0x37#8] ∧ encode .ccf = [0x3F#8] ∧
    (s.f.getLsbD 6 = false →
      exec .daa s = .next { s with
        a := BitVec.ofNat 8 (s.a.toNat
          + (if s.f.getLsbD 4 = true ∨ 0x99 < s.a.toNat then 0x60 else 0)
          + (if s.f.getLsbD 5 = true ∨ 9 < s.a.toNat % 16 then 6 else 0))
        f := flagByte (decide ((s.a.toNat
          + (if s.f.getLsbD 4 = true ∨ 0x99 < s.a.toNat then 0x60 else 0)
          + (if s.f.getLsbD 5 = true ∨ 9 < s.a.toNat % 16 then 6 else 0)) % 256 = 0)) false false
          (decide (s.f.getLsbD 4 = true ∨ 0x99 < s.a.toNat))
        pc := s.pc + 1, cycles := s.cycles + 4 }) ∧
    (s.f.getLsbD 6 = true →
      exec .daa s = .next { s with
        a := BitVec.ofNat 8 (s.a.toNat + 256 - (if s.f.getLsbD 4 = true then 0x60 else 0)
          - (if s.f.getLsbD 5 = true then 6 else 0))
        f := flagByte (decide ((s.a.toNat + 256 - (if s.f.getLsbD 4 = true then 0x60 else 0)
          - (if s.f.getLsbD 5 = true then 6 else 0)) % 256 = 0)) true false (s.f.getLsbD 4)
        pc := s.pc + 1, cycles := s.cycles + 4 }) ∧
    exec .cpl s = .next { s with
      a := BitVec.ofNat 8 (255 - s.a.toNat), f := flagByte (s.f.getLsbD 7) true true (s.f.getLsbD 4)
      pc := s.pc + 1, cycles := s.cycles + 4 } ∧
    exec .scf s = .next { s with
      f := flagByte (s.f.getLsbD 7) false false true, pc := s.pc + 1, cycles := s.cycles + 4 } ∧
    exec .ccf s = .next { s with
      f := flagByte (s.f.getLsbD 7) false false (!s.f.getLsbD 4), pc := s.pc + 1, cycles := s.cycles + 4 }

/-- R278 with R255 and R261 (95_test_vectors.md W3): a binary sum or difference of two decimal bytes, then DAA, is the decimal
sum or difference, with C the decimal carry or borrow and Z for a zero result. -/
def Obligations.DaaGivesDecimalSums : Prop :=
  ∀ (s : State) (x y : Nat), x < 100 → y < 100 → s.a = bcd x →
    (∃ t u, exec (.adc_a_n (bcd y)) s = .next t ∧ exec .daa t = .next u ∧
      u.a = bcd ((x + y + carry s) % 100) ∧ (u.f.getLsbD 4 = true ↔ 99 < x + y + carry s) ∧
      (u.f.getLsbD 7 = true ↔ (x + y + carry s) % 100 = 0)) ∧
    (∃ t u, exec (.sbc_a_n (bcd y)) s = .next t ∧ exec .daa t = .next u ∧
      u.a = bcd ((x + 200 - y - carry s) % 100) ∧ (u.f.getLsbD 4 = true ↔ x < y + carry s) ∧
      (u.f.getLsbD 7 = true ↔ (x + 200 - y - carry s) % 100 = 0))

/-! ## 16-bit arithmetic -/

/-- R300, R301, R302: INC rr and DEC rr modulo 2^16 without a flag; ADD HL,rr with H and C the carries out of bits 11 and 15
and Z as it was. -/
def Obligations.PairArithmetic : Prop :=
  ∀ nn : Word, ∀ row ∈ pairs nn, ∀ s : State,
    encode row.1.2.1 = [byte (0x03 + 16 * pairCode row.2)] ∧ encode row.1.2.2.1 = [byte (0x0B + 16 * pairCode row.2)] ∧
    encode row.1.2.2.2 = [byte (0x09 + 16 * pairCode row.2)] ∧
    exec row.1.2.1 s = .next { s.setReg16 row.2 (BitVec.ofNat 16 ((s.reg16 row.2).toNat + 1)) with
      pc := s.pc + 1, cycles := s.cycles + 8 } ∧
    exec row.1.2.2.1 s = .next { s.setReg16 row.2 (BitVec.ofNat 16 ((s.reg16 row.2).toNat + 65535)) with
      pc := s.pc + 1, cycles := s.cycles + 8 } ∧
    exec row.1.2.2.2 s = .next { s.setReg16 .hl (BitVec.ofNat 16 (s.hl.toNat + (s.reg16 row.2).toNat)) with
      f := flagByte (s.f.getLsbD 7) false (decide (s.hl.toNat % 4096 + (s.reg16 row.2).toNat % 4096 > 4095))
        (decide (s.hl.toNat + (s.reg16 row.2).toNat > 65535))
      pc := s.pc + 1, cycles := s.cycles + 8 }

/-- R303, R304: ADD SP,e and LD HL,SP+e add the signed displacement; H and C are those of the unsigned low-byte sum. -/
def Obligations.StackPointerSums : Prop :=
  ∀ (e : Byte) (s : State),
    encode (.add_sp_e e) = [0xE8#8, e] ∧ encode (.ld_hl_spE e) = [0xF8#8, e] ∧
    exec (.add_sp_e e) s = .next { s with
      sp := BitVec.ofInt 16 (s.sp.toNat + e.toInt)
      f := flagByte false false (decide (s.sp.toNat % 16 + e.toNat % 16 > 15)) (decide (s.sp.toNat % 256 + e.toNat > 255))
      pc := s.pc + 2, cycles := s.cycles + 16 } ∧
    exec (.ld_hl_spE e) s = .next { s.setReg16 .hl (BitVec.ofInt 16 (s.sp.toNat + e.toInt)) with
      f := flagByte false false (decide (s.sp.toNat % 16 + e.toNat % 16 > 15)) (decide (s.sp.toNat % 256 + e.toNat > 255))
      pc := s.pc + 2, cycles := s.cycles + 12 }

/-! ## Rotates, shifts and bits -/

/-- R320 to R323: RLCA, RRCA, RLA, RRA; Z is 0 whatever the result. -/
def Obligations.AccumulatorRotates : Prop :=
  ∀ row ∈ accumulatorRotates, ∀ s : State,
    encode row.1 = [byte (0x07 + 8 * rotCode row.2)] ∧
    exec row.1 s = .next { s with
      a := BitVec.ofNat 8 (rotated s.a.toNat (carry s) row.2)
      f := flagByte false false false (rotatedOut s.a.toNat row.2)
      pc := s.pc + 1, cycles := s.cycles + 4 }

/-- R319, R324 to R331: the CB rotates RLC, RRC, RL and RR on a register (8 cycles) and on the byte at HL (16). -/
def Obligations.CbRotates : Prop :=
  ∀ row ∈ cbRotates, ∀ s : State,
    encode row.1 = cbBytes 0 (rotCode row.2.1) row.2.2 ∧
    exec row.1 s = .next { writeLoc s row.2.2 (BitVec.ofNat 8 (rotated (readLoc s row.2.2).toNat (carry s) row.2.1)) with
      f := flagByte (decide (rotated (readLoc s row.2.2).toNat (carry s) row.2.1 = 0)) false false
        (rotatedOut (readLoc s row.2.2).toNat row.2.1)
      pc := s.pc + 2, cycles := s.cycles + (if row.2.2 = .indHl then 16 else 8) }

/-- R319, R332 to R339: SLA, SRA, SWAP and SRL on a register (8 cycles) and on the byte at HL (16). -/
def Obligations.CbShifts : Prop :=
  ∀ row ∈ cbShifts, ∀ s : State,
    encode row.1 = cbBytes 0 (rotCode row.2.1) row.2.2 ∧
    exec row.1 s = .next { writeLoc s row.2.2 (BitVec.ofNat 8 (rotated (readLoc s row.2.2).toNat (carry s) row.2.1)) with
      f := flagByte (decide (rotated (readLoc s row.2.2).toNat (carry s) row.2.1 = 0)) false false
        (rotatedOut (readLoc s row.2.2).toNat row.2.1)
      pc := s.pc + 2, cycles := s.cycles + (if row.2.2 = .indHl then 16 else 8) }

/-- R340 to R345: BIT writes Z, N and H only, and no operand; RES and SET change the one bit of the operand and no flag, and
their (HL) forms make their write always. -/
def Obligations.BitInstructions : Prop :=
  (∀ row ∈ bitForms, ∀ s : State,
    encode row.1 = cbBytes 1 row.2.1 row.2.2 ∧
    exec row.1 s = .next { s with
      f := flagByte (decide ((readLoc s row.2.2).toNat / 2 ^ row.2.1 % 2 = 0)) false true (s.f.getLsbD 4)
      pc := s.pc + 2, cycles := s.cycles + (if row.2.2 = .indHl then 12 else 8) }) ∧
  (∀ row ∈ resForms, ∀ s : State, encode row.1 = cbBytes 2 row.2.1 row.2.2 ∧ ∃ v : Byte,
    (∀ j, j < 8 → v.getLsbD j = if j = row.2.1 then false else (readLoc s row.2.2).getLsbD j) ∧
    exec row.1 s = .next { writeLoc s row.2.2 v with
      pc := s.pc + 2, cycles := s.cycles + (if row.2.2 = .indHl then 16 else 8) }) ∧
  (∀ row ∈ setForms, ∀ s : State, encode row.1 = cbBytes 3 row.2.1 row.2.2 ∧ ∃ v : Byte,
    (∀ j, j < 8 → v.getLsbD j = if j = row.2.1 then true else (readLoc s row.2.2).getLsbD j) ∧
    exec row.1 s = .next { writeLoc s row.2.2 v with
      pc := s.pc + 2, cycles := s.cycles + (if row.2.2 = .indHl then 16 else 8) })

/-! ## Control transfer -/

/-- R360, R361, R362: JP nn, JP cc,nn, JP HL. -/
def Obligations.AbsoluteJumps : Prop :=
  (∀ (nn : Word) (s : State), encode (.jp_nn nn) = [0xC3#8, lo nn, hi nn] ∧
    exec (.jp_nn nn) s = .next { s with pc := nn, cycles := s.cycles + 16 }) ∧
  (∀ s : State, encode .jp_hl = [0xE9#8] ∧ exec .jp_hl s = .next { s with pc := s.hl, cycles := s.cycles + 4 }) ∧
  (∀ (nn : Word) (e : Byte), ∀ row ∈ conditions nn e, ∀ s : State,
    encode row.1.1 = [byte (0xC2 + 8 * row.2.1), lo nn, hi nn] ∧
    (row.2.2 s → exec row.1.1 s = .next { s with pc := nn, cycles := s.cycles + 16 }) ∧
    (¬ row.2.2 s → exec row.1.1 s = .next { s with pc := s.pc + 3, cycles := s.cycles + 12 }))

/-- R363, R364: JR e and JR cc,e, from the address after the instruction by the signed displacement, modulo 2^16. -/
def Obligations.RelativeJumps : Prop :=
  (∀ (e : Byte) (s : State), encode (.jr_e e) = [0x18#8, e] ∧
    exec (.jr_e e) s = .next { s with pc := BitVec.ofInt 16 (s.pc.toNat + 2 + e.toInt), cycles := s.cycles + 12 }) ∧
  (∀ (nn : Word) (e : Byte), ∀ row ∈ conditions nn e, ∀ s : State,
    encode row.1.2.1 = [byte (0x20 + 8 * row.2.1), e] ∧
    (row.2.2 s → exec row.1.2.1 s = .next { s with
      pc := BitVec.ofInt 16 (s.pc.toNat + 2 + e.toInt), cycles := s.cycles + 12 }) ∧
    (¬ row.2.2 s → exec row.1.2.1 s = .next { s with pc := s.pc + 2, cycles := s.cycles + 8 }))

/-- R365, R366, R370: CALL, CALL cc and RST push the address after the instruction; a CALL cc not taken touches no stack. -/
def Obligations.CallsAndRestarts : Prop :=
  (∀ (nn : Word) (s : State), encode (.call_nn nn) = [0xCD#8, lo nn, hi nn] ∧
    exec (.call_nn nn) s = .next { pushed s (s.pc + 3) with pc := nn, cycles := s.cycles + 24 }) ∧
  (∀ (nn : Word) (e : Byte), ∀ row ∈ conditions nn e, ∀ s : State,
    encode row.1.2.2.1 = [byte (0xC4 + 8 * row.2.1), lo nn, hi nn] ∧
    (row.2.2 s → exec row.1.2.2.1 s = .next { pushed s (s.pc + 3) with pc := nn, cycles := s.cycles + 24 }) ∧
    (¬ row.2.2 s → exec row.1.2.2.1 s = .next { s with pc := s.pc + 3, cycles := s.cycles + 12 })) ∧
  (∀ row ∈ restarts, ∀ s : State, encode row.1 = [byte (0xC7 + row.2.toNat)] ∧
    exec row.1 s = .next { pushed s (s.pc + 1) with pc := row.2, cycles := s.cycles + 16 })

/-- R367, R368, R369: RET, RET cc and RETI; RETI sets IME at once. -/
def Obligations.Returns : Prop :=
  (∀ s : State,
    encode .ret = [0xC9#8] ∧ encode .reti = [0xD9#8] ∧
    exec .ret s = .next { s with
      pc := word (memRead s (s.sp + 1)) (memRead s s.sp), sp := s.sp + 2, cycles := s.cycles + 16 } ∧
    exec .reti s = .next { s with
      pc := word (memRead s (s.sp + 1)) (memRead s s.sp), sp := s.sp + 2, ime := true, eiPending := false
      cycles := s.cycles + 16 }) ∧
  (∀ (nn : Word) (e : Byte), ∀ row ∈ conditions nn e, ∀ s : State,
    encode row.1.2.2.2 = [byte (0xC0 + 8 * row.2.1)] ∧
    (row.2.2 s → exec row.1.2.2.2 s = .next { s with
      pc := word (memRead s (s.sp + 1)) (memRead s s.sp), sp := s.sp + 2, cycles := s.cycles + 20 }) ∧
    (¬ row.2.2 s → exec row.1.2.2.2 s = .next { s with pc := s.pc + 1, cycles := s.cycles + 8 }))

/-! ## System instructions, interrupts, HALT and STOP -/

/-- R390 to R394: NOP, HALT, STOP with any second byte, DI and EI. -/
def Obligations.SystemInstructions : Prop :=
  ∀ (x : Byte) (s : State),
    encode .nop = [0x00#8] ∧ encode .halt = [0x76#8] ∧ encode (.stop x) = [0x10#8, x] ∧ encode .di = [0xF3#8] ∧
    encode .ei = [0xFB#8] ∧
    exec .nop s = .next { s with pc := s.pc + 1, cycles := s.cycles + 4 } ∧
    exec .halt s = .next { s with cpuMode := .halted, pc := s.pc + 1, cycles := s.cycles + 4 } ∧
    exec (.stop x) s = .next { s with cpuMode := .stopped, pc := s.pc + 2, cycles := s.cycles + 4 } ∧
    exec .di s = .next { s with ime := false, eiPending := false, pc := s.pc + 1, cycles := s.cycles + 4 } ∧
    exec .ei s = .next { s with eiPending := true, pc := s.pc + 1, cycles := s.cycles + 4 }

/-- R396, R510: an undefined opcode enters Faulted(DecodeError, pc, byte) with PC at the byte; from a legal state the whole
step changes nothing else but the cycle count, which is 0, and no further step exists (how that
shows in the outcomes: log 6). -/
def Obligations.UndefinedOpcodeFaults : Prop :=
  (∀ (b : Byte) (s : State),
    exec (.undefined b) s = .next { s with pc := s.pc, cpuMode := .faulted .decodeError s.pc b }) ∧
  (∀ s : State, Legal s → atFetch s → isUndefinedByte (memRead s s.pc) = true →
    step s = .next { s with cpuMode := .faulted .decodeError s.pc (memRead s s.pc), cycles := 0 } ∧
    step { s with cpuMode := .faulted .decodeError s.pc (memRead s s.pc), cycles := 0 } =
      .fault (.decodeErrorFaulted s.pc (memRead s s.pc)))

/-- R43, R44, R421, R422, R423: with IME, the lowest-numbered source that is pending and enabled is dispatched before the
fetch: PC is pushed, IME and ei_pending are cleared, then that source's IF bit, PC is its vector, 20 cycles are added, and
the instruction at the vector runs in the same step. Without one, nothing is dispatched. Which byte of PC goes to 0xFF0F when
SP = 0xFF10, where R423's corner case (a) and its `push16` differ, is the model's choice: log 20. Right after an EI executed with
IME already true R422 and R551 differ: the free value `Config.eiHoldsDispatch` stands for either, and both are stated (log 21). -/
def Obligations.InterruptDispatch : Prop :=
  [IrqSource.vblank, .lcdStat, .timer, .serial, .joypad].map irqBit = [0, 1, 2, 3, 4] ∧
  (∀ (s : State) (i : IrqSource), pendingIrq s = some i ↔
    (s.ieReg &&& s.ifReg).getLsbD (irqBit i) = true ∧ ∀ j, j < irqBit i → (s.ieReg &&& s.ifReg).getLsbD j = false) ∧
  (∀ s : State, pendingIrq s = none ↔ s.ieReg &&& s.ifReg = 0#5) ∧
  (∀ (s d : State) (i : IrqSource), s.hostEvents = [] → s.cpuMode = .running → s.ime = true → pendingIrq s = some i →
    (s.eiPending = true → Config.eiHoldsDispatch = false) →
    d = { pushed s s.pc with
      ime := false, eiPending := false
      ifReg := (pushed s s.pc).ifReg &&& ~~~(1#5 <<< irqBit i)
      pc := BitVec.ofNat 16 (0x40 + 8 * irqBit i), cycles := 20 } →
    step s = finishStep (fetchInstr d) (exec (fetchInstr d) d)) ∧
  (∀ (s d : State), s.hostEvents = [] → s.cpuMode = .running →
    (s.ime = false ∨ s.ieReg &&& s.ifReg = 0#5 ∨ (s.eiPending = true ∧ Config.eiHoldsDispatch = true)) →
    d = { s with cycles := 0 } → step s = finishStep (fetchInstr d) (exec (fetchInstr d) d))

/-- R38, and R394 and R421 with it: a pending EI takes effect at the end of the next step that runs an instruction other than EI;
DI and dispatch cancel it, EI leaves IME as it was, and no read shows it. No dispatch comes between EI and the next
instruction (R551): with IME false before EI, or with an interrupt pending when EI runs (R394), on every machine, and for what
arises in the step of an EI executed with IME already true, on a machine that follows R551 there and not R422 (the free value
`Config.eiHoldsDispatch`: log 21). -/
def Obligations.EiTakesEffectOneInstructionLater : Prop :=
  (∀ (s t : State), atFetch s → step s = .next t →
    (fetchInstr s = .ei → (s.ime = false ∨ pendingIrq s ≠ none ∨ Config.eiHoldsDispatch = true) → noDispatch t = true) ∧
    (fetchInstr s = .ei → t.ime = s.ime ∧ t.eiPending = true) ∧
    (fetchInstr s = .di → t.ime = false ∧ t.eiPending = false) ∧
    (s.eiPending = true → fetchInstr s ≠ .ei → fetchInstr s ≠ .di → isUndefinedByte (memRead s s.pc) = false →
      t.ime = true ∧ t.eiPending = false) ∧
    (s.eiPending = false → fetchInstr s ≠ .ei → fetchInstr s ≠ .di → fetchInstr s ≠ .reti →
      t.ime = s.ime ∧ t.eiPending = false)) ∧
  (∀ (s : State) (i : IrqSource), (dispatch i s).ime = false ∧ (dispatch i s).eiPending = false) ∧
  (∀ (s : State) (b : Bool) (addr : Word), memRead { s with eiPending := b } addr = memRead s addr)

/-- R440, R441, R442: a Halted machine that does not wake, and a Stopped machine, idle for 4 cycles while the devices go on;
a Halted machine that wakes runs on in the same step. -/
def Obligations.HaltedAndStoppedSteps : Prop :=
  ∀ s : State, s.hostEvents = [] →
    (s.cpuMode = .stopped → step s = .next (timerTick 4 (ppuStep 4 { s with cycles := 4 }))) ∧
    (s.cpuMode = .halted →
      ((s.ime = true ∨ s.haltWakeNeedsIe = true) → s.ieReg &&& s.ifReg = 0#5 →
        step s = .next (timerTick 4 (ppuStep 4 { s with cycles := 4 }))) ∧
      (s.ifReg = 0#5 → step s = .next (timerTick 4 (ppuStep 4 { s with cycles := 4 }))) ∧
      (s.ieReg &&& s.ifReg ≠ 0#5 → step s = step { s with cpuMode := .running }) ∧
      (s.ime = false → s.haltWakeNeedsIe = false → s.ifReg ≠ 0#5 → step s = step { s with cpuMode := .running }))

/-- R525: a key-down clears its bit, requests Joypad only if the bit was 1, and lets a Stopped machine run; a key-up sets its
bit and requests nothing; the other bits and the other row stay. -/
def Obligations.KeyEvents : Prop :=
  ∀ (s : State) (row : KeyRow) (k : Fin 4),
    (∀ j, j < 4 → ((keyDown row k s).row row).getLsbD j = (decide (j ≠ k.val) && (s.row row).getLsbD j)) ∧
    (∀ j, j < 4 → ((keyUp row k s).row row).getLsbD j = (decide (j = k.val) || (s.row row).getLsbD j)) ∧
    (∀ row', row' ≠ row → (keyDown row k s).row row' = s.row row' ∧ (keyUp row k s).row row' = s.row row') ∧
    (keyDown row k s).ifReg = (if (s.row row).getLsbD k.val = true then s.ifReg ||| 0x10#5 else s.ifReg) ∧
    (keyDown row k s).cpuMode = (if s.cpuMode = .stopped then .running else s.cpuMode) ∧
    keyDown row k s = { s with dirRow := (keyDown row k s).dirRow, actRow := (keyDown row k s).actRow
                               ifReg := (keyDown row k s).ifReg, cpuMode := (keyDown row k s).cpuMode } ∧
    keyUp row k s = { s with dirRow := (keyUp row k s).dirRow, actRow := (keyUp row k s).actRow }

/-! ## Memory -/

/-- R82 to R91, R98 to R102, R104: what a read of each range returns; in the I/O page, what the table of its registers gives, and
0xFF at every other address. The banked window is for an image of two banks or more, as R541 asks of every launch. -/
def Obligations.AddressMapReads : Prop :=
  ∀ (s : State) (addr : Word),
    (addr.toNat < 0x100 → s.bootMapped = true → ∀ m, s.boot = some m → memRead s addr = m.read addr.toNat) ∧
    (addr.toNat < 0x4000 → (s.bootMapped = false ∨ 0x100 ≤ addr.toNat) → memRead s addr = s.rom.read addr.toNat) ∧
    (0x4000 ≤ addr.toNat → addr.toNat < 0x8000 → s.cartBanked = false → memRead s addr = s.rom.read addr.toNat) ∧
    (0x4000 ≤ addr.toNat → addr.toNat < 0x8000 → s.cartBanked = true → 0x8000 ≤ s.romSize →
      memRead s addr = s.rom.read (s.romBank.toNat % (s.romSize / 0x4000) * 0x4000 + (addr.toNat - 0x4000))) ∧
    (0x8000 ≤ addr.toNat → addr.toNat < 0xA000 → memRead s addr = s.vram.read (addr.toNat - 0x8000)) ∧
    (0xA000 ≤ addr.toNat → addr.toNat < 0xC000 →
      memRead s addr = if s.cartBanked = false then s.eram.read (addr.toNat - 0xA000)
        else if s.ramEnabled = true then s.eram.read (s.ramBank.toNat * 0x2000 + (addr.toNat - 0xA000)) else 0xFF#8) ∧
    (0xC000 ≤ addr.toNat → addr.toNat < 0xE000 → memRead s addr = s.wram.read (addr.toNat - 0xC000)) ∧
    (0xE000 ≤ addr.toNat → addr.toNat < 0xFE00 → memRead s addr = s.wram.read (addr.toNat - 0xE000)) ∧
    (0xFE00 ≤ addr.toNat → addr.toNat < 0xFEA0 → memRead s addr = s.oam.read (addr.toNat - 0xFE00)) ∧
    (0xFEA0 ≤ addr.toNat → addr.toNat < 0xFF00 → memRead s addr = 0x00#8) ∧
    (0xFF00 ≤ addr.toNat → addr.toNat < 0xFF80 → memRead s addr = ((ioReads s).lookup addr).getD 0xFF#8) ∧
    (0xFF80 ≤ addr.toNat → addr.toNat < 0xFFFF → memRead s addr = s.hram.read (addr.toNat - 0xFF80)) ∧
    (addr = 0xFFFF#16 → (memRead s addr).toNat = s.ieReg.toNat)

/-- R86 to R90, R101, R115: a byte written to plain memory is read back there and at its echo address, and every address that
reaches another byte or register reads as before. -/
def Obligations.RamReadAfterWrite : Prop :=
  (∀ (s : State) (addr : Word) (v : Byte), StorageLegal s → isRam (busTarget s addr) = true →
    memRead (memWrite s addr v) addr = v ∧
    (∀ other, busTarget s other = busTarget s addr → memRead (memWrite s addr v) other = v) ∧
    (∀ other, busTarget s other ≠ busTarget s addr → memRead (memWrite s addr v) other = memRead s other)) ∧
  (∀ (s : State) (k : Nat), k < 0x1E00 →
    busTarget s (BitVec.ofNat 16 (0xE000 + k)) = busTarget s (BitVec.ofNat 16 (0xC000 + k)) ∧
    isRam (busTarget s (BitVec.ofNat 16 (0xC000 + k))) = true)

/-- The frame of every form that stores: a byte stored to plain memory at the form's own address leaves every address that
reaches something else reading as before; a stored word leaves every address but those of its two bytes. -/
def Obligations.StoresLeaveOtherBytes : Prop :=
  (∀ (n : Byte) (nn : Word), ∀ row ∈ byteStores n nn, ∀ (s t : State) (addr : Word), StorageLegal s →
    row.2 s = addr → exec row.1 s = .next t → isRam (busTarget s addr) = true →
    ∀ other, busTarget s other ≠ busTarget s addr → memRead t other = memRead s other) ∧
  (∀ nn : Word, ∀ row ∈ wordStores nn, ∀ (s t : State) (addr : Word), StorageLegal s →
    row.2 s = addr → exec row.1 s = .next t →
    isRam (busTarget s addr) = true → isRam (busTarget s (addr + 1)) = true →
    ∀ other, busTarget s other ≠ busTarget s addr → busTarget s other ≠ busTarget s (addr + 1) →
      memRead t other = memRead s other)

/-- R108: whatever the address, a bus write leaves the CPU's registers and control state, the ROM, the boot ROM, the input rows,
the frame and the modes of the devices as they were; and a write that reaches no storage and is not the OAM-DMA register leaves
every storage array as it was. -/
def Obligations.BusWriteFrame : Prop :=
  ∀ (s : State) (addr : Word) (v : Byte),
    memWrite s addr v =
      { s with vram := (memWrite s addr v).vram, eram := (memWrite s addr v).eram, wram := (memWrite s addr v).wram
               oam := (memWrite s addr v).oam, hram := (memWrite s addr v).hram
               romBank := (memWrite s addr v).romBank, ramBank := (memWrite s addr v).ramBank
               ramEnabled := (memWrite s addr v).ramEnabled, bankingMode := (memWrite s addr v).bankingMode
               bootMapped := (memWrite s addr v).bootMapped, dmaLast := (memWrite s addr v).dmaLast
               ifReg := (memWrite s addr v).ifReg, ieReg := (memWrite s addr v).ieReg
               div := (memWrite s addr v).div, divAcc := (memWrite s addr v).divAcc
               tima := (memWrite s addr v).tima, tma := (memWrite s addr v).tma, tac := (memWrite s addr v).tac
               lcdc := (memWrite s addr v).lcdc, statEn := (memWrite s addr v).statEn
               coincidence := (memWrite s addr v).coincidence, lyc := (memWrite s addr v).lyc
               scy := (memWrite s addr v).scy, scx := (memWrite s addr v).scx, bgp := (memWrite s addr v).bgp
               obp0 := (memWrite s addr v).obp0, obp1 := (memWrite s addr v).obp1
               wy := (memWrite s addr v).wy, wx := (memWrite s addr v).wx, sel := (memWrite s addr v).sel } ∧
    (isRam (busTarget s addr) = false → addr ≠ 0xFF46#16 →
      (memWrite s addr v).vram = s.vram ∧ (memWrite s addr v).eram = s.eram ∧ (memWrite s addr v).wram = s.wram ∧
      (memWrite s addr v).oam = s.oam ∧ (memWrite s addr v).hram = s.hram)

/-- R45, R46, R50 to R53, R55 to R62, R66, R100, R102, R103: what each device register reads, in every state; the whole state that a
write of it leaves, where the write does no more than store (so a write of STAT requests nothing); what it reads after a write;
LYC's and the OAM-DMA register's writes but for what the coincidence (R467) and the copy (R110) change; and that no bus write
moves LY or maps the boot ROM again. -/
def Obligations.DeviceRegisters : Prop :=
  ∀ (s : State) (v : Byte),
    (∀ row ∈ ioReads s, memRead s row.1 = row.2) ∧
    memRead s 0xFFFF#16 = BitVec.ofNat 8 s.ieReg.toNat ∧
    (∀ row ∈ ioWrites s v, memWrite s row.1 v = row.2) ∧
    memWrite s 0xFF45#16 v = { s with lyc := v, coincidence := (memWrite s 0xFF45#16 v).coincidence
                                      ifReg := (memWrite s 0xFF45#16 v).ifReg } ∧
    memWrite s 0xFF46#16 v = { s with dmaLast := v, oam := (memWrite s 0xFF46#16 v).oam } ∧
    (∀ row ∈ readBack, memRead (memWrite s row.1 v) row.1 = (v &&& row.2.1) ||| row.2.2) ∧
    memRead (memWrite s 0xFF04#16 v) 0xFF04#16 = 0x00#8 ∧
    memRead (memWrite s 0xFF41#16 v) 0xFF41#16 =
      0x80#8 ||| (v &&& 0x78#8) ||| (memRead s 0xFF41#16 &&& 0x07#8) ∧
    memRead (memWrite s 0xFF00#16 v) 0xFF00#16 =
      0xC0#8 ||| (v &&& 0x30#8) ||| ((if v.getLsbD 4 = true then 0xF#4 else s.dirRow) &&&
        (if v.getLsbD 5 = true then 0xF#4 else s.actRow)).setWidth 8 ∧
    (∀ addr, (memWrite s addr v).ly = s.ly ∧ (s.bootMapped = false → (memWrite s addr v).bootMapped = false))

/-- R91, R100, R104, R87: an address without a device reads its sentinel, and a write to it changes nothing. -/
def Obligations.UnmappedAddresses : Prop :=
  ∀ (s : State) (addr : Word) (v : Byte),
    (0xFEA0 ≤ addr.toNat → addr.toNat < 0xFF00 → memRead s addr = 0x00#8 ∧ memWrite s addr v = s) ∧
    (addr.toNat ∈ [0xFF01, 0xFF02, 0xFF03] ∨ (0xFF08 ≤ addr.toNat ∧ addr.toNat ≤ 0xFF0E) ∨
      (0xFF10 ≤ addr.toNat ∧ addr.toNat ≤ 0xFF3F) ∨ (0xFF4C ≤ addr.toNat ∧ addr.toNat ≤ 0xFF4F) ∨
      (0xFF51 ≤ addr.toNat ∧ addr.toNat ≤ 0xFF7F) →
      memRead s addr = 0xFF#8 ∧ memWrite s addr v = s) ∧
    (0xA000 ≤ addr.toNat → addr.toNat < 0xC000 → s.cartBanked = true → s.ramEnabled = false →
      memRead s addr = 0xFF#8 ∧ memWrite s addr v = s)

/-- R93 to R97: the cartridge control writes, as numbers. -/
def Obligations.BankControl : Prop :=
  ∀ (s : State) (addr : Word) (v : Byte),
    (s.cartBanked = false → addr.toNat < 0x8000 → memWrite s addr v = s) ∧
    (s.cartBanked = true →
      (addr.toNat < 0x2000 → memWrite s addr v = { s with ramEnabled := decide (v.toNat % 16 = 10) }) ∧
      (0x2000 ≤ addr.toNat → addr.toNat < 0x4000 →
        memWrite s addr v = { s with
          romBank := BitVec.ofNat 7 (s.romBank.toNat / 32 * 32 + (if v.toNat % 32 = 0 then 1 else v.toNat % 32)) }) ∧
      (0x4000 ≤ addr.toNat → addr.toNat < 0x6000 → s.bankingMode = 0#1 →
        memWrite s addr v = { s with romBank := BitVec.ofNat 7 (v.toNat % 4 * 32 + s.romBank.toNat % 32) }) ∧
      (0x4000 ≤ addr.toNat → addr.toNat < 0x6000 → s.bankingMode = 1#1 →
        memWrite s addr v = { s with ramBank := BitVec.ofNat 2 v.toNat }) ∧
      (0x6000 ≤ addr.toNat → addr.toNat < 0x8000 →
        memWrite s addr v = { s with bankingMode := BitVec.ofNat 1 v.toNat }))

/-- R60, R110, R111: a write of v to 0xFF46 copies the 160 bytes from v · 256 on, as the bus reads them, into OAM, and changes
nothing else but the register itself. That the register is written first, which one byte shows (v = 0xFF, k = 0x46), is the
model's inference: log 16. -/
def Obligations.OamDmaCopies : Prop :=
  ∀ (s : State) (v : Byte), StorageLegal s →
    (∀ k, k < 160 → (memWrite s 0xFF46#16 v).oam.read k =
      memRead { s with dmaLast := v } (BitVec.ofNat 16 (256 * v.toNat + k))) ∧
    memWrite s 0xFF46#16 v = { s with dmaLast := v, oam := (memWrite s 0xFF46#16 v).oam }

/-! ## Timer and pixel processor -/

/-- R450, R451, R452: DIV counts every 256 cycles; TIMA counts at the selected rate while TAC[2] = 1, and an increment of 0xFF
reloads TMA and requests Timer; while TAC[2] = 0 neither TIMA nor its accumulator moves. -/
def Obligations.TimerTicks : Prop :=
  ∀ (s : State) (c : Nat),
    (timerTick c s).divAcc = (s.divAcc + c) % 256 ∧
    (timerTick c s).div.toNat = (s.div.toNat + (s.divAcc + c) / 256) % 256 ∧
    (s.tac.getLsbD 2 = false → (timerTick c s).tima = s.tima ∧ (timerTick c s).timaAcc = s.timaAcc ∧
      (timerTick c s).ifReg = s.ifReg) ∧
    (∀ period, (s.tac.toNat % 4, period) ∈ [(0, 1024), (1, 16), (2, 64), (3, 256)] → s.tac.getLsbD 2 = true →
      (timerTick c s).timaAcc = (s.timaAcc + c) % period ∧
      (s.timaAcc + c < period → (timerTick c s).tima = s.tima ∧ (timerTick c s).ifReg = s.ifReg) ∧
      (period ≤ s.timaAcc + c → s.timaAcc + c < 2 * period →
        (s.tima ≠ 0xFF#8 → (timerTick c s).tima = s.tima + 1 ∧ (timerTick c s).ifReg = s.ifReg) ∧
        (s.tima = 0xFF#8 → (timerTick c s).tima = s.tma ∧ (timerTick c s).ifReg = s.ifReg ||| 0x04#5)))

/-- R450, R460, R466: the devices take cycles in any split: two ticks are one tick of the sum. So TIMA's increments in one
long tick are those of short ones (R452), and mode_clock's excess carries over (R460). -/
def Obligations.DevicesTakeCyclesInAnySplit : Prop :=
  ∀ (s : State) (c1 c2 : Nat),
    timerTick (c1 + c2) s = timerTick c2 (timerTick c1 s) ∧
    ppuStep (c1 + c2) s = ppuStep c2 (ppuStep c1 s)

/-- R460, R461, R463: cycles that do not end the mode are added to its clock; each transition of the mode machine with its
requests, one at a time, from a clock that reaches the end of the mode and not of the next, as the whole state it leaves; and a
write of STAT requests nothing. -/
def Obligations.ModeTransitions : Prop :=
  (∀ (s : State) (c : Nat), s.lcdc.getLsbD 7 = true →
    (∀ limit, (s.ppuMode, limit) ∈ [(.oamScan, 80), (.drawLine, 172), (.hblank, 204), (.vblank, 456)] →
      s.modeClock + c < limit → ppuStep c s = { s with modeClock := s.modeClock + c }) ∧
    (s.ppuMode = .oamScan → 80 ≤ s.modeClock + c → s.modeClock + c < 80 + 172 →
      ppuStep c s = { s with ppuMode := .drawLine, modeClock := s.modeClock + c - 80 }) ∧
    (s.ppuMode = .drawLine → 172 ≤ s.modeClock + c → s.modeClock + c < 172 + 204 →
      ppuStep c s = { renderLine s.ly.toNat s with
        ppuMode := .hblank, modeClock := s.modeClock + c - 172
        ifReg := if s.statEn.getLsbD 0 = true then s.ifReg ||| 0x02#5 else s.ifReg }) ∧
    (s.ppuMode = .hblank → s.ly ≠ 143#8 → 204 ≤ s.modeClock + c → s.modeClock + c < 204 + 80 →
      ppuStep c s = { s with
        ppuMode := .oamScan, modeClock := s.modeClock + c - 204, ly := s.ly + 1
        coincidence := decide (s.ly + 1 = s.lyc)
        ifReg := if s.ly + 1 = s.lyc ∧ s.coincidence = false ∧ s.statEn.getLsbD 3 = true then s.ifReg ||| 0x02#5
          else s.ifReg }) ∧
    (s.ppuMode = .hblank → s.ly = 143#8 → 204 ≤ s.modeClock + c → s.modeClock + c < 204 + 456 →
      ppuStep c s = { s with
        ppuMode := .vblank, modeClock := s.modeClock + c - 204, ly := 144#8
        coincidence := decide (144#8 = s.lyc)
        ifReg := if s.statEn.getLsbD 1 = true ∨ (144#8 = s.lyc ∧ s.coincidence = false ∧ s.statEn.getLsbD 3 = true)
          then s.ifReg ||| 0x03#5 else s.ifReg ||| 0x01#5 }) ∧
    (s.ppuMode = .vblank → s.ly.toNat < 153 → 456 ≤ s.modeClock + c → s.modeClock + c < 456 + 456 →
      ppuStep c s = { s with
        modeClock := s.modeClock + c - 456, ly := s.ly + 1
        coincidence := decide (s.ly + 1 = s.lyc)
        ifReg := if s.ly + 1 = s.lyc ∧ s.coincidence = false ∧ s.statEn.getLsbD 3 = true then s.ifReg ||| 0x02#5
          else s.ifReg }) ∧
    (s.ppuMode = .vblank → s.ly = 153#8 → 456 ≤ s.modeClock + c → s.modeClock + c < 456 + 80 →
      ppuStep c s = { s with
        ppuMode := .oamScan, modeClock := s.modeClock + c - 456, ly := 0#8
        coincidence := decide (0#8 = s.lyc)
        ifReg := if 0#8 = s.lyc ∧ s.coincidence = false ∧ s.statEn.getLsbD 3 = true then s.ifReg ||| 0x02#5
          else s.ifReg })) ∧
  (∀ (s : State) (v : Byte), (memWrite s 0xFF41#16 v).ifReg = s.ifReg)

/-- R462, R466: where the pixel processor stands is a function of the cycles fed since the start of a frame, in any split of the
calls: line n = 0..153 lasts 456 cycles, of which a line below 144 spends 80, 172 and 204 in its three modes; VBlank is
requested once, on entering line 144; after 70224 cycles the frame starts again. With the LCD off nothing moves. -/
def Obligations.FrameLaw : Prop :=
  (∀ (s t : State) (calls : List Nat) (line r : Nat),
    s.lcdc.getLsbD 7 = true → s.ppuMode = .oamScan → s.modeClock = 0 → s.ly = 0#8 →
    t = calls.foldl (fun u c => ppuStep c u) s → calls.sum = 456 * line + r → r < 456 → line < 154 →
    t.ly.toNat = line ∧
    t.ppuMode = (if 144 ≤ line then .vblank else if r < 80 then .oamScan else if r < 252 then .drawLine else .hblank) ∧
    t.modeClock = (if 144 ≤ line then r else if r < 80 then r else if r < 252 then r - 80 else r - 252) ∧
    t.ifReg.getLsbD 0 = (s.ifReg.getLsbD 0 || decide (144 ≤ line))) ∧
  (∀ (s t : State) (calls : List Nat),
    s.lcdc.getLsbD 7 = true → s.ppuMode = .oamScan → s.modeClock = 0 → s.ly = 0#8 →
    t = calls.foldl (fun u c => ppuStep c u) s → calls.sum = 70224 →
    t.ppuMode = .oamScan ∧ t.modeClock = 0 ∧ t.ly = 0#8) ∧
  (∀ (s : State) (calls : List Nat), s.lcdc.getLsbD 7 = true → s.ppuMode = .vblank → s.modeClock = 0 → s.ly = 144#8 →
    calls.sum ≤ 4560 → (calls.foldl (fun u c => ppuStep c u) s).ifReg.getLsbD 0 = s.ifReg.getLsbD 0) ∧
  (∀ (s : State) (c : Nat), s.lcdc.getLsbD 7 = false → ppuStep c s = s)

/-- R467, R59: the coincidence flag is LY == LYC as last evaluated, and LCDStat is requested on its rising edge only, if
enabled and the LCD is on; a bus write of LYC evaluates it. -/
def Obligations.CoincidenceEdge : Prop :=
  ∀ (s : State) (v : Byte),
    coincidenceUpdate s = { s with
      coincidence := decide (s.ly = s.lyc)
      ifReg := if s.ly = s.lyc ∧ s.coincidence = false ∧ s.statEn.getLsbD 3 = true ∧ s.lcdc.getLsbD 7 = true
        then s.ifReg ||| 0x02#5 else s.ifReg } ∧
    coincidenceUpdate (coincidenceUpdate s) = coincidenceUpdate s ∧
    memWrite s 0xFF45#16 v = coincidenceUpdate { s with lyc := v } ∧
    memWrite (memWrite s 0xFF45#16 v) 0xFF45#16 v = memWrite s 0xFF45#16 v

/-- R63, R480, R481, R482: in every state the background's colour index of a pixel is the tile pixel under the scrolled position and
its shade is the background palette's, and both are 0 with the background off; the tile is one of the 384 of the cache. With
sprites off, a rendered line's pixels are those shades. The other lines of the frame stay, and rendering changes nothing else. -/
def Obligations.BackgroundPixels : Prop :=
  (∀ (s : State) (ly x yy xx idx tile : Nat), yy = (s.scy.toNat + ly) % 256 → xx = (s.scx.toNat + x) % 256 →
    idx = (s.vram.read ((if s.lcdc.getLsbD 3 = true then 0x1C00 else 0x1800) + 32 * (yy / 8) + xx / 8)).toNat →
    tile = (if s.lcdc.getLsbD 4 = true ∨ 128 ≤ idx then idx else idx + 256) →
    s.lcdc.getLsbD 0 = true →
    tile < 384 ∧
    (bgIndex s ly x).toNat = 2 * ((s.vram.read (16 * tile + 2 * (yy % 8) + 1)).getLsbD (7 - xx % 8)).toNat +
      ((s.vram.read (16 * tile + 2 * (yy % 8))).getLsbD (7 - xx % 8)).toNat ∧
    bgShade s ly x = BitVec.ofNat 2 (s.bgp.toNat / 4 ^ (bgIndex s ly x).toNat)) ∧
  (∀ (s : State) (ly x : Nat), s.lcdc.getLsbD 0 = false → bgIndex s ly x = 0#2 ∧ bgShade s ly x = 0#2) ∧
  (∀ (s : State) (y : Fin 144) (x : Fin 160), s.lcdc.getLsbD 1 = false →
    hostPixel (renderLine y.val s) y x = bgShade s y.val x.val) ∧
  (∀ (s : State) (y y' : Fin 144) (x : Fin 160), y' ≠ y → hostPixel (renderLine y.val s) y' x = hostPixel s y' x) ∧
  (∀ (s : State) (ly : Nat), renderLine ly s = { s with frame := (renderLine ly s).frame })

/-- R483, R484, R485: the sprites of a line are the first ten that overlap it, none with sprites off; a sprite's colour index is
its tile's pixel after its flips; the winner of a pixel is the selected sprite that covers it with a colour index other than 0
and comes first by x and then by OAM index; its shade shows unless its attribute gives a background of another index than 0 the
priority; without a winner the background shows. That shade is what rendering the line writes into the frame. -/
def Obligations.SpriteComposition : Prop :=
  (∀ (s : State) (y : Fin 144) (x : Fin 160), hostPixel (renderLine y.val s) y x = pixelShade s y.val x.val) ∧
  ∀ (s : State) (ly x : Nat),
    (selectedSprites s ly = if s.lcdc.getLsbD 1 = true then (lineSprites s ly).map (spriteAt s) else []) ∧
    (∀ (sp : Sprite) (h r c tno : Nat), h = (if s.lcdc.getLsbD 2 = true then 16 else 8) →
      r = (if sp.attr.getLsbD 6 = true then h - 1 - (ly + 16 - sp.y.toNat) else ly + 16 - sp.y.toNat) →
      c = (if sp.attr.getLsbD 5 = true then 7 - (x + 8 - sp.x.toNat) else x + 8 - sp.x.toNat) →
      tno = (if h = 16 then sp.tile.toNat / 2 * 2 + r / 8 else sp.tile.toNat) →
      (spriteIndex s ly x sp).toNat = 2 * ((s.vram.read (16 * tno + 2 * (r % 8) + 1)).getLsbD (7 - c)).toNat +
        ((s.vram.read (16 * tno + 2 * (r % 8))).getLsbD (7 - c)).toNat) ∧
    (∀ sp, winner s ly x = some sp → s.lcdc.getLsbD 1 = true ∧
      (∃ i ∈ lineSprites s ly, sp = spriteAt s i ∧ shows s ly x i ∧
        ∀ j ∈ lineSprites s ly, ((spriteAt s j).x.toNat < sp.x.toNat ∨ ((spriteAt s j).x = sp.x ∧ j < i)) →
          ¬ shows s ly x j) ∧
      pixelShade s ly x = (if sp.attr.getLsbD 7 = true ∧ bgIndex s ly x ≠ 0#2 then bgShade s ly x
        else shade (if sp.attr.getLsbD 4 = true then s.obp1 else s.obp0) (spriteIndex s ly x sp))) ∧
    (winner s ly x = none → pixelShade s ly x = bgShade s ly x ∧
      (s.lcdc.getLsbD 1 = true → ∀ j ∈ lineSprites s ly, ¬ shows s ly x j))
end

