-- ==== Sys2Proof/Laws/Bits.lean ====
section
/-! SUPPORT. Words and their bytes, displacements and the flag byte, on bits and on numbers. -/

namespace Sys2Proof.Machine

theorem word_toNat (h l : Byte) : (word h l).toNat = 256 * h.toNat + l.toNat := by
  have hl := l.isLt
  have e : (word h l).toNat = h.toNat <<< 8 ||| l.toNat := BitVec.toNat_append h l
  rw [e, Nat.shiftLeft_eq, Nat.mul_comm, ← Nat.two_pow_add_eq_or_of_lt hl]

theorem hi_toNat (w : Word) : (hi w).toNat = w.toNat / 256 := by
  have hw := w.isLt
  rw [hi, BitVec.extractLsb'_toNat, Nat.shiftRight_eq_div_pow]
  omega

theorem lo_toNat (w : Word) : (lo w).toNat = w.toNat % 256 := by
  rw [lo, BitVec.extractLsb'_toNat]
  simp

@[simp] theorem word_hi_lo (w : Word) : word (hi w) (lo w) = w := by
  apply BitVec.eq_of_toNat_eq
  rw [word_toNat, hi_toNat, lo_toNat]
  omega

@[simp] theorem hi_word (h l : Byte) : hi (word h l) = h := by
  apply BitVec.eq_of_toNat_eq
  have := l.isLt
  rw [hi_toNat, word_toNat]
  omega

@[simp] theorem lo_word (h l : Byte) : lo (word h l) = l := by
  apply BitVec.eq_of_toNat_eq
  have := l.isLt
  rw [lo_toNat, word_toNat]
  omega

/-- `sext_16` is the signed value (00_scope.md R10). -/
theorem sext16_eq (v : Byte) : sext16 v = BitVec.ofInt 16 v.toInt := by
  revert v
  decide

theorem zeroPage_toNat (n : Byte) : (zeroPage n).toNat = 0xFF00 + n.toNat := by
  have := n.isLt
  rw [zeroPage, BitVec.toNat_add, BitVec.toNat_setWidth]
  simp
  omega

theorem packFlags_bits (fl : Flags) :
    (packFlags fl).getLsbD 7 = fl.z ∧ (packFlags fl).getLsbD 6 = fl.n ∧ (packFlags fl).getLsbD 5 = fl.h ∧
    (packFlags fl).getLsbD 4 = fl.c := by
  rcases fl with ⟨z, n, h, c⟩
  revert z n h c
  decide

/-- The flags that were written are the flags that stand (10_state.md R32). -/
@[simp] theorem flags_setFlags (s : State) (fl : Flags) : (s.setFlags fl).flags = fl := by
  obtain ⟨hz, hn, hh, hc⟩ := packFlags_bits fl
  simp only [State.flags, State.setFlags, hz, hn, hh, hc]

end Sys2Proof.Machine
end

