-- ==== Sys2Proof/Laws/Memory.lean ====
section
/-! SUPPORT. The storage arrays: a read after a write, the canonical form and the size that every operation keeps, and what the
array of a list of bytes reads as. -/

namespace Sys2Proof.Machine

theorem Memory.wfFrom_mono {lo hi : Nat} (h : lo ≤ hi) : ∀ {m : Memory}, m.wfFrom hi = true → m.wfFrom lo = true
  | [], _ => rfl
  | (k, w) :: m, hm => by
    simp only [Memory.wfFrom, Bool.and_eq_true, decide_eq_true_eq] at hm ⊢
    exact ⟨⟨by omega, hm.1.2⟩, hm.2⟩

/-- Below its first offset a canonical array reads as unwritten. -/
theorem Memory.read_of_lt {lo i : Nat} : ∀ {m : Memory}, m.wfFrom lo = true → i < lo → m.read i = Config.unwrittenByte
  | [], _, _ => rfl
  | (k, w) :: m, hm, hi => by
    simp only [Memory.wfFrom, Bool.and_eq_true, decide_eq_true_eq] at hm
    simp only [Memory.read]
    rw [if_neg (by omega), if_pos (by omega)]

@[simp] theorem Memory.read_nil (i : Nat) : Memory.read [] i = Config.unwrittenByte := rfl

@[simp] theorem Memory.wf_nil : Memory.wf [] = true := rfl

@[simp] theorem Memory.within_nil (size : Nat) : Memory.within size [] = true := rfl

/-- A read after a write to the same offset. -/
theorem Memory.read_write_same {v : Byte} {i : Nat} :
    ∀ {lo : Nat} {m : Memory}, m.wfFrom lo = true → (m.write i v).read i = v
  | _, [], _ => by
    simp only [Memory.write, Memory.cell]
    split <;> simp_all [Memory.read]
  | lo, (k, w) :: m, hm => by
    have hm' := hm
    simp only [Memory.wfFrom, Bool.and_eq_true, decide_eq_true_eq] at hm'
    simp only [Memory.write]
    split
    · rename_i h
      simp only [Memory.cell]
      split
      · rename_i hv
        simp [Memory.read, Nat.ne_of_lt h, h, hv]
      · simp [Memory.read]
    · split
      · rename_i h1 h2
        subst h2
        simp only [Memory.cell]
        split
        · rename_i hv
          simp only [List.nil_append, hv]
          exact Memory.read_of_lt hm'.2 (by omega)
        · simp [Memory.read]
      · rename_i h1 h2
        simp only [Memory.read, if_neg h2, if_neg h1]
        exact Memory.read_write_same hm'.2

/-- A write leaves every other offset alone. -/
theorem Memory.read_write_ne {v : Byte} {i j : Nat} (hij : j ≠ i) :
    ∀ {lo : Nat} {m : Memory}, m.wfFrom lo = true → (m.write i v).read j = m.read j
  | _, [], _ => by
    simp only [Memory.write, Memory.cell]
    split
    · rfl
    · simp [Memory.read, hij]
  | lo, (k, w) :: m, hm => by
    have hm' := hm
    simp only [Memory.wfFrom, Bool.and_eq_true, decide_eq_true_eq] at hm'
    simp only [Memory.write]
    split
    · rename_i h
      simp only [Memory.cell]
      split
      · rfl
      · simp only [List.singleton_append, Memory.read, if_neg hij]
        split
        · rw [if_neg (by omega), if_pos (by omega)]
        · rfl
    · split
      · rename_i h1 h2
        subst h2
        simp only [Memory.cell]
        split
        · simp only [List.nil_append, Memory.read, if_neg hij]
          split
          · exact Memory.read_of_lt hm'.2 (by omega)
          · rfl
        · simp [Memory.read, hij]
      · simp only [Memory.read]
        rw [Memory.read_write_ne hij hm'.2]

/-- A write keeps the canonical form. -/
theorem Memory.wfFrom_write {v : Byte} {i : Nat} :
    ∀ {lo : Nat} {m : Memory}, lo ≤ i → m.wfFrom lo = true → (m.write i v).wfFrom lo = true
  | _, [], h, _ => by
    simp only [Memory.write, Memory.cell]
    split <;> simp_all [Memory.wfFrom]
  | lo, (k, w) :: m, h, hm => by
    have hm' := hm
    simp only [Memory.wfFrom, Bool.and_eq_true, decide_eq_true_eq, bne_iff_ne, ne_eq] at hm'
    simp only [Memory.write]
    split
    · rename_i hlt
      simp only [Memory.cell]
      split
      · exact hm
      · simp_all [Memory.wfFrom]
    · split
      · rename_i h1 h2
        subst h2
        simp only [Memory.cell]
        split
        · exact Memory.wfFrom_mono (by omega) hm'.2
        · simp_all [Memory.wfFrom]
      · simp only [Memory.wfFrom, Bool.and_eq_true, decide_eq_true_eq, bne_iff_ne, ne_eq]
        exact ⟨hm'.1, Memory.wfFrom_write (by omega) hm'.2⟩

theorem Memory.wf_write {m : Memory} (i : Nat) (v : Byte) (h : m.wf = true) : (m.write i v).wf = true :=
  Memory.wfFrom_write (Nat.zero_le i) h

theorem Memory.read_write {m : Memory} (i j : Nat) (v : Byte) (h : m.wf = true) :
    (m.write i v).read j = if j = i then v else m.read j := by
  split
  · rename_i hj
    subst hj
    exact Memory.read_write_same h
  · rename_i hj
    exact Memory.read_write_ne hj h

theorem Memory.within_cons {size k : Nat} {w : Byte} {m : Memory} :
    Memory.within size ((k, w) :: m) = true ↔ k < size ∧ Memory.within size m = true := by
  simp only [Memory.within, List.all_cons, Bool.and_eq_true, decide_eq_true_eq]

theorem Memory.within_cell_append {size i : Nat} {v : Byte} {m : Memory} (hi : i < size)
    (h : Memory.within size m = true) : Memory.within size (Memory.cell i v ++ m) = true := by
  simp only [Memory.cell]
  split
  · exact h
  · exact Memory.within_cons.mpr ⟨hi, h⟩

/-- A write below the size keeps every listed offset below it. -/
theorem Memory.within_write {v : Byte} {i size : Nat} (hi : i < size) :
    ∀ {m : Memory}, m.within size = true → (m.write i v).within size = true
  | [], h => by
    have := Memory.within_cell_append (v := v) hi h
    rwa [List.append_nil] at this
  | (k, w) :: m, hm => by
    have hm' := Memory.within_cons.mp hm
    simp only [Memory.write]
    split
    · exact Memory.within_cell_append hi hm
    · split
      · exact Memory.within_cell_append hi hm'.2
      · exact Memory.within_cons.mpr ⟨hm'.1, Memory.within_write hi hm'.2⟩

/-- Beyond its size an array reads as unwritten. -/
theorem Memory.read_of_within {size i : Nat} (hi : size ≤ i) :
    ∀ {m : Memory}, m.within size = true → m.read i = Config.unwrittenByte
  | [], _ => rfl
  | (k, w) :: m, hm => by
    simp only [Memory.within, List.all_cons, Bool.and_eq_true, decide_eq_true_eq] at hm
    simp only [Memory.read]
    rw [if_neg (by omega)]
    split
    · rfl
    · exact Memory.read_of_within hi hm.2

theorem Memory.wfFrom_ofBytesFrom : ∀ (i : Nat) (vs : List Byte), (Memory.ofBytesFrom i vs).wfFrom i = true
  | _, [] => rfl
  | i, v :: vs => by
    have ih := Memory.wfFrom_ofBytesFrom (i + 1) vs
    simp only [Memory.ofBytesFrom, Memory.cell]
    split
    · exact Memory.wfFrom_mono (by omega) ih
    · simp_all [Memory.wfFrom]

theorem Memory.wf_ofBytes (size : Nat) (vs : List Byte) : (Memory.ofBytes size vs).wf = true :=
  Memory.wfFrom_ofBytesFrom 0 _

theorem Memory.within_ofBytesFrom : ∀ (i : Nat) (vs : List Byte) (size : Nat), i + vs.length ≤ size →
    (Memory.ofBytesFrom i vs).within size = true
  | _, [], _, _ => rfl
  | i, v :: vs, size, h => by
    simp only [List.length_cons] at h
    have ih := Memory.within_ofBytesFrom (i + 1) vs size (by omega)
    simp only [Memory.ofBytesFrom, Memory.cell]
    split
    · exact ih
    · simp only [Memory.within, List.singleton_append, List.all_cons, Bool.and_eq_true, decide_eq_true_eq]
      exact ⟨by omega, ih⟩

theorem Memory.within_ofBytes (size : Nat) (vs : List Byte) : (Memory.ofBytes size vs).within size = true :=
  Memory.within_ofBytesFrom 0 _ size (by simp [List.length_take])

theorem Memory.read_ofBytesFrom : ∀ (i j : Nat) (vs : List Byte),
    (Memory.ofBytesFrom i vs).read (i + j) = vs.getD j Config.unwrittenByte
  | _, _, [] => rfl
  | i, 0, v :: vs => by
    simp only [Memory.ofBytesFrom, Memory.cell]
    split
    · rename_i h
      simpa [h] using Memory.read_of_lt (Memory.wfFrom_ofBytesFrom (i + 1) vs) (Nat.lt_succ_self i)
    · simp [Memory.read]
  | i, j + 1, v :: vs => by
    have ih := Memory.read_ofBytesFrom (i + 1) j vs
    simp only [Memory.ofBytesFrom, Memory.cell]
    have e : i + (j + 1) = i + 1 + j := by omega
    rw [e]
    split
    · simpa using ih
    · simp only [List.singleton_append, Memory.read]
      rw [if_neg (by omega), if_neg (by omega), ih]
      simp

/-- The array of a list of bytes reads as the list, and as unwritten past it or past its size. -/
theorem Memory.read_ofBytes (size j : Nat) (vs : List Byte) :
    (Memory.ofBytes size vs).read j = if j < size then vs.getD j Config.unwrittenByte else Config.unwrittenByte := by
  have h := Memory.read_ofBytesFrom 0 j (vs.take size)
  rw [Nat.zero_add] at h
  rw [Memory.ofBytes, h]
  simp only [List.getD_eq_getElem?_getD, List.getElem?_take]
  split <;> rfl

end Sys2Proof.Machine
end

