-- ==== Sys2Proof/Laws/State.lean ====
section
/-! SUPPORT. What every update of the state leaves in every field: one equation per field and update, so that no proof unfolds a
record update. -/

namespace Sys2Proof.Machine

/-! ## setReg -/

@[simp] theorem setReg_reg (s : State) (r r' : Reg8) (v : Byte) : (s.setReg r v).reg r' = if r' = r then v else s.reg r' := by
  cases r <;> cases r' <;> rfl

@[simp] theorem setReg_f (s : State) (r : Reg8) (v : Byte) : (s.setReg r v).f = s.f := by cases r <;> rfl
@[simp] theorem setReg_sp (s : State) (r : Reg8) (v : Byte) : (s.setReg r v).sp = s.sp := by cases r <;> rfl
@[simp] theorem setReg_pc (s : State) (r : Reg8) (v : Byte) : (s.setReg r v).pc = s.pc := by cases r <;> rfl
@[simp] theorem setReg_cpuMode (s : State) (r : Reg8) (v : Byte) : (s.setReg r v).cpuMode = s.cpuMode := by cases r <;> rfl
@[simp] theorem setReg_ime (s : State) (r : Reg8) (v : Byte) : (s.setReg r v).ime = s.ime := by cases r <;> rfl
@[simp] theorem setReg_eiPending (s : State) (r : Reg8) (v : Byte) : (s.setReg r v).eiPending = s.eiPending := by cases r <;> rfl
@[simp] theorem setReg_cycles (s : State) (r : Reg8) (v : Byte) : (s.setReg r v).cycles = s.cycles := by cases r <;> rfl
@[simp] theorem setReg_rom (s : State) (r : Reg8) (v : Byte) : (s.setReg r v).rom = s.rom := by cases r <;> rfl
@[simp] theorem setReg_romSize (s : State) (r : Reg8) (v : Byte) : (s.setReg r v).romSize = s.romSize := by cases r <;> rfl
@[simp] theorem setReg_boot (s : State) (r : Reg8) (v : Byte) : (s.setReg r v).boot = s.boot := by cases r <;> rfl
@[simp] theorem setReg_vram (s : State) (r : Reg8) (v : Byte) : (s.setReg r v).vram = s.vram := by cases r <;> rfl
@[simp] theorem setReg_eram (s : State) (r : Reg8) (v : Byte) : (s.setReg r v).eram = s.eram := by cases r <;> rfl
@[simp] theorem setReg_wram (s : State) (r : Reg8) (v : Byte) : (s.setReg r v).wram = s.wram := by cases r <;> rfl
@[simp] theorem setReg_oam (s : State) (r : Reg8) (v : Byte) : (s.setReg r v).oam = s.oam := by cases r <;> rfl
@[simp] theorem setReg_hram (s : State) (r : Reg8) (v : Byte) : (s.setReg r v).hram = s.hram := by cases r <;> rfl
@[simp] theorem setReg_romBank (s : State) (r : Reg8) (v : Byte) : (s.setReg r v).romBank = s.romBank := by cases r <;> rfl
@[simp] theorem setReg_ramBank (s : State) (r : Reg8) (v : Byte) : (s.setReg r v).ramBank = s.ramBank := by cases r <;> rfl
@[simp] theorem setReg_ramEnabled (s : State) (r : Reg8) (v : Byte) : (s.setReg r v).ramEnabled = s.ramEnabled := by cases r <;> rfl
@[simp] theorem setReg_bankingMode (s : State) (r : Reg8) (v : Byte) : (s.setReg r v).bankingMode = s.bankingMode := by cases r <;> rfl
@[simp] theorem setReg_cartBanked (s : State) (r : Reg8) (v : Byte) : (s.setReg r v).cartBanked = s.cartBanked := by cases r <;> rfl
@[simp] theorem setReg_bootMapped (s : State) (r : Reg8) (v : Byte) : (s.setReg r v).bootMapped = s.bootMapped := by cases r <;> rfl
@[simp] theorem setReg_dmaLast (s : State) (r : Reg8) (v : Byte) : (s.setReg r v).dmaLast = s.dmaLast := by cases r <;> rfl
@[simp] theorem setReg_ifReg (s : State) (r : Reg8) (v : Byte) : (s.setReg r v).ifReg = s.ifReg := by cases r <;> rfl
@[simp] theorem setReg_ieReg (s : State) (r : Reg8) (v : Byte) : (s.setReg r v).ieReg = s.ieReg := by cases r <;> rfl
@[simp] theorem setReg_div (s : State) (r : Reg8) (v : Byte) : (s.setReg r v).div = s.div := by cases r <;> rfl
@[simp] theorem setReg_divAcc (s : State) (r : Reg8) (v : Byte) : (s.setReg r v).divAcc = s.divAcc := by cases r <;> rfl
@[simp] theorem setReg_tima (s : State) (r : Reg8) (v : Byte) : (s.setReg r v).tima = s.tima := by cases r <;> rfl
@[simp] theorem setReg_tma (s : State) (r : Reg8) (v : Byte) : (s.setReg r v).tma = s.tma := by cases r <;> rfl
@[simp] theorem setReg_tac (s : State) (r : Reg8) (v : Byte) : (s.setReg r v).tac = s.tac := by cases r <;> rfl
@[simp] theorem setReg_timaAcc (s : State) (r : Reg8) (v : Byte) : (s.setReg r v).timaAcc = s.timaAcc := by cases r <;> rfl
@[simp] theorem setReg_lcdc (s : State) (r : Reg8) (v : Byte) : (s.setReg r v).lcdc = s.lcdc := by cases r <;> rfl
@[simp] theorem setReg_statEn (s : State) (r : Reg8) (v : Byte) : (s.setReg r v).statEn = s.statEn := by cases r <;> rfl
@[simp] theorem setReg_ppuMode (s : State) (r : Reg8) (v : Byte) : (s.setReg r v).ppuMode = s.ppuMode := by cases r <;> rfl
@[simp] theorem setReg_modeClock (s : State) (r : Reg8) (v : Byte) : (s.setReg r v).modeClock = s.modeClock := by cases r <;> rfl
@[simp] theorem setReg_coincidence (s : State) (r : Reg8) (v : Byte) : (s.setReg r v).coincidence = s.coincidence := by cases r <;> rfl
@[simp] theorem setReg_ly (s : State) (r : Reg8) (v : Byte) : (s.setReg r v).ly = s.ly := by cases r <;> rfl
@[simp] theorem setReg_lyc (s : State) (r : Reg8) (v : Byte) : (s.setReg r v).lyc = s.lyc := by cases r <;> rfl
@[simp] theorem setReg_scy (s : State) (r : Reg8) (v : Byte) : (s.setReg r v).scy = s.scy := by cases r <;> rfl
@[simp] theorem setReg_scx (s : State) (r : Reg8) (v : Byte) : (s.setReg r v).scx = s.scx := by cases r <;> rfl
@[simp] theorem setReg_bgp (s : State) (r : Reg8) (v : Byte) : (s.setReg r v).bgp = s.bgp := by cases r <;> rfl
@[simp] theorem setReg_obp0 (s : State) (r : Reg8) (v : Byte) : (s.setReg r v).obp0 = s.obp0 := by cases r <;> rfl
@[simp] theorem setReg_obp1 (s : State) (r : Reg8) (v : Byte) : (s.setReg r v).obp1 = s.obp1 := by cases r <;> rfl
@[simp] theorem setReg_wy (s : State) (r : Reg8) (v : Byte) : (s.setReg r v).wy = s.wy := by cases r <;> rfl
@[simp] theorem setReg_wx (s : State) (r : Reg8) (v : Byte) : (s.setReg r v).wx = s.wx := by cases r <;> rfl
@[simp] theorem setReg_frame (s : State) (r : Reg8) (v : Byte) : (s.setReg r v).frame = s.frame := by cases r <;> rfl
@[simp] theorem setReg_sel (s : State) (r : Reg8) (v : Byte) : (s.setReg r v).sel = s.sel := by cases r <;> rfl
@[simp] theorem setReg_dirRow (s : State) (r : Reg8) (v : Byte) : (s.setReg r v).dirRow = s.dirRow := by cases r <;> rfl
@[simp] theorem setReg_actRow (s : State) (r : Reg8) (v : Byte) : (s.setReg r v).actRow = s.actRow := by cases r <;> rfl
@[simp] theorem setReg_haltWakeNeedsIe (s : State) (r : Reg8) (v : Byte) : (s.setReg r v).haltWakeNeedsIe = s.haltWakeNeedsIe := by cases r <;> rfl
@[simp] theorem setReg_hostEvents (s : State) (r : Reg8) (v : Byte) : (s.setReg r v).hostEvents = s.hostEvents := by cases r <;> rfl

/-! ## setF -/

@[simp] theorem setF_a (s : State) (v : Byte) : (s.setF v).a = s.a := rfl
@[simp] theorem setF_f (s : State) (v : Byte) : (s.setF v).f = v &&& 0xF0#8 := rfl
@[simp] theorem setF_b (s : State) (v : Byte) : (s.setF v).b = s.b := rfl
@[simp] theorem setF_c (s : State) (v : Byte) : (s.setF v).c = s.c := rfl
@[simp] theorem setF_d (s : State) (v : Byte) : (s.setF v).d = s.d := rfl
@[simp] theorem setF_e (s : State) (v : Byte) : (s.setF v).e = s.e := rfl
@[simp] theorem setF_h (s : State) (v : Byte) : (s.setF v).h = s.h := rfl
@[simp] theorem setF_l (s : State) (v : Byte) : (s.setF v).l = s.l := rfl
@[simp] theorem setF_sp (s : State) (v : Byte) : (s.setF v).sp = s.sp := rfl
@[simp] theorem setF_pc (s : State) (v : Byte) : (s.setF v).pc = s.pc := rfl
@[simp] theorem setF_cpuMode (s : State) (v : Byte) : (s.setF v).cpuMode = s.cpuMode := rfl
@[simp] theorem setF_ime (s : State) (v : Byte) : (s.setF v).ime = s.ime := rfl
@[simp] theorem setF_eiPending (s : State) (v : Byte) : (s.setF v).eiPending = s.eiPending := rfl
@[simp] theorem setF_cycles (s : State) (v : Byte) : (s.setF v).cycles = s.cycles := rfl
@[simp] theorem setF_rom (s : State) (v : Byte) : (s.setF v).rom = s.rom := rfl
@[simp] theorem setF_romSize (s : State) (v : Byte) : (s.setF v).romSize = s.romSize := rfl
@[simp] theorem setF_boot (s : State) (v : Byte) : (s.setF v).boot = s.boot := rfl
@[simp] theorem setF_vram (s : State) (v : Byte) : (s.setF v).vram = s.vram := rfl
@[simp] theorem setF_eram (s : State) (v : Byte) : (s.setF v).eram = s.eram := rfl
@[simp] theorem setF_wram (s : State) (v : Byte) : (s.setF v).wram = s.wram := rfl
@[simp] theorem setF_oam (s : State) (v : Byte) : (s.setF v).oam = s.oam := rfl
@[simp] theorem setF_hram (s : State) (v : Byte) : (s.setF v).hram = s.hram := rfl
@[simp] theorem setF_romBank (s : State) (v : Byte) : (s.setF v).romBank = s.romBank := rfl
@[simp] theorem setF_ramBank (s : State) (v : Byte) : (s.setF v).ramBank = s.ramBank := rfl
@[simp] theorem setF_ramEnabled (s : State) (v : Byte) : (s.setF v).ramEnabled = s.ramEnabled := rfl
@[simp] theorem setF_bankingMode (s : State) (v : Byte) : (s.setF v).bankingMode = s.bankingMode := rfl
@[simp] theorem setF_cartBanked (s : State) (v : Byte) : (s.setF v).cartBanked = s.cartBanked := rfl
@[simp] theorem setF_bootMapped (s : State) (v : Byte) : (s.setF v).bootMapped = s.bootMapped := rfl
@[simp] theorem setF_dmaLast (s : State) (v : Byte) : (s.setF v).dmaLast = s.dmaLast := rfl
@[simp] theorem setF_ifReg (s : State) (v : Byte) : (s.setF v).ifReg = s.ifReg := rfl
@[simp] theorem setF_ieReg (s : State) (v : Byte) : (s.setF v).ieReg = s.ieReg := rfl
@[simp] theorem setF_div (s : State) (v : Byte) : (s.setF v).div = s.div := rfl
@[simp] theorem setF_divAcc (s : State) (v : Byte) : (s.setF v).divAcc = s.divAcc := rfl
@[simp] theorem setF_tima (s : State) (v : Byte) : (s.setF v).tima = s.tima := rfl
@[simp] theorem setF_tma (s : State) (v : Byte) : (s.setF v).tma = s.tma := rfl
@[simp] theorem setF_tac (s : State) (v : Byte) : (s.setF v).tac = s.tac := rfl
@[simp] theorem setF_timaAcc (s : State) (v : Byte) : (s.setF v).timaAcc = s.timaAcc := rfl
@[simp] theorem setF_lcdc (s : State) (v : Byte) : (s.setF v).lcdc = s.lcdc := rfl
@[simp] theorem setF_statEn (s : State) (v : Byte) : (s.setF v).statEn = s.statEn := rfl
@[simp] theorem setF_ppuMode (s : State) (v : Byte) : (s.setF v).ppuMode = s.ppuMode := rfl
@[simp] theorem setF_modeClock (s : State) (v : Byte) : (s.setF v).modeClock = s.modeClock := rfl
@[simp] theorem setF_coincidence (s : State) (v : Byte) : (s.setF v).coincidence = s.coincidence := rfl
@[simp] theorem setF_ly (s : State) (v : Byte) : (s.setF v).ly = s.ly := rfl
@[simp] theorem setF_lyc (s : State) (v : Byte) : (s.setF v).lyc = s.lyc := rfl
@[simp] theorem setF_scy (s : State) (v : Byte) : (s.setF v).scy = s.scy := rfl
@[simp] theorem setF_scx (s : State) (v : Byte) : (s.setF v).scx = s.scx := rfl
@[simp] theorem setF_bgp (s : State) (v : Byte) : (s.setF v).bgp = s.bgp := rfl
@[simp] theorem setF_obp0 (s : State) (v : Byte) : (s.setF v).obp0 = s.obp0 := rfl
@[simp] theorem setF_obp1 (s : State) (v : Byte) : (s.setF v).obp1 = s.obp1 := rfl
@[simp] theorem setF_wy (s : State) (v : Byte) : (s.setF v).wy = s.wy := rfl
@[simp] theorem setF_wx (s : State) (v : Byte) : (s.setF v).wx = s.wx := rfl
@[simp] theorem setF_frame (s : State) (v : Byte) : (s.setF v).frame = s.frame := rfl
@[simp] theorem setF_sel (s : State) (v : Byte) : (s.setF v).sel = s.sel := rfl
@[simp] theorem setF_dirRow (s : State) (v : Byte) : (s.setF v).dirRow = s.dirRow := rfl
@[simp] theorem setF_actRow (s : State) (v : Byte) : (s.setF v).actRow = s.actRow := rfl
@[simp] theorem setF_haltWakeNeedsIe (s : State) (v : Byte) : (s.setF v).haltWakeNeedsIe = s.haltWakeNeedsIe := rfl
@[simp] theorem setF_hostEvents (s : State) (v : Byte) : (s.setF v).hostEvents = s.hostEvents := rfl

/-! ## setHl -/

@[simp] theorem setHl_a (s : State) (w : Word) : (s.setHl w).a = s.a := rfl
@[simp] theorem setHl_f (s : State) (w : Word) : (s.setHl w).f = s.f := rfl
@[simp] theorem setHl_b (s : State) (w : Word) : (s.setHl w).b = s.b := rfl
@[simp] theorem setHl_c (s : State) (w : Word) : (s.setHl w).c = s.c := rfl
@[simp] theorem setHl_d (s : State) (w : Word) : (s.setHl w).d = s.d := rfl
@[simp] theorem setHl_e (s : State) (w : Word) : (s.setHl w).e = s.e := rfl
@[simp] theorem setHl_h (s : State) (w : Word) : (s.setHl w).h = hi w := rfl
@[simp] theorem setHl_l (s : State) (w : Word) : (s.setHl w).l = lo w := rfl
@[simp] theorem setHl_sp (s : State) (w : Word) : (s.setHl w).sp = s.sp := rfl
@[simp] theorem setHl_pc (s : State) (w : Word) : (s.setHl w).pc = s.pc := rfl
@[simp] theorem setHl_cpuMode (s : State) (w : Word) : (s.setHl w).cpuMode = s.cpuMode := rfl
@[simp] theorem setHl_ime (s : State) (w : Word) : (s.setHl w).ime = s.ime := rfl
@[simp] theorem setHl_eiPending (s : State) (w : Word) : (s.setHl w).eiPending = s.eiPending := rfl
@[simp] theorem setHl_cycles (s : State) (w : Word) : (s.setHl w).cycles = s.cycles := rfl
@[simp] theorem setHl_rom (s : State) (w : Word) : (s.setHl w).rom = s.rom := rfl
@[simp] theorem setHl_romSize (s : State) (w : Word) : (s.setHl w).romSize = s.romSize := rfl
@[simp] theorem setHl_boot (s : State) (w : Word) : (s.setHl w).boot = s.boot := rfl
@[simp] theorem setHl_vram (s : State) (w : Word) : (s.setHl w).vram = s.vram := rfl
@[simp] theorem setHl_eram (s : State) (w : Word) : (s.setHl w).eram = s.eram := rfl
@[simp] theorem setHl_wram (s : State) (w : Word) : (s.setHl w).wram = s.wram := rfl
@[simp] theorem setHl_oam (s : State) (w : Word) : (s.setHl w).oam = s.oam := rfl
@[simp] theorem setHl_hram (s : State) (w : Word) : (s.setHl w).hram = s.hram := rfl
@[simp] theorem setHl_romBank (s : State) (w : Word) : (s.setHl w).romBank = s.romBank := rfl
@[simp] theorem setHl_ramBank (s : State) (w : Word) : (s.setHl w).ramBank = s.ramBank := rfl
@[simp] theorem setHl_ramEnabled (s : State) (w : Word) : (s.setHl w).ramEnabled = s.ramEnabled := rfl
@[simp] theorem setHl_bankingMode (s : State) (w : Word) : (s.setHl w).bankingMode = s.bankingMode := rfl
@[simp] theorem setHl_cartBanked (s : State) (w : Word) : (s.setHl w).cartBanked = s.cartBanked := rfl
@[simp] theorem setHl_bootMapped (s : State) (w : Word) : (s.setHl w).bootMapped = s.bootMapped := rfl
@[simp] theorem setHl_dmaLast (s : State) (w : Word) : (s.setHl w).dmaLast = s.dmaLast := rfl
@[simp] theorem setHl_ifReg (s : State) (w : Word) : (s.setHl w).ifReg = s.ifReg := rfl
@[simp] theorem setHl_ieReg (s : State) (w : Word) : (s.setHl w).ieReg = s.ieReg := rfl
@[simp] theorem setHl_div (s : State) (w : Word) : (s.setHl w).div = s.div := rfl
@[simp] theorem setHl_divAcc (s : State) (w : Word) : (s.setHl w).divAcc = s.divAcc := rfl
@[simp] theorem setHl_tima (s : State) (w : Word) : (s.setHl w).tima = s.tima := rfl
@[simp] theorem setHl_tma (s : State) (w : Word) : (s.setHl w).tma = s.tma := rfl
@[simp] theorem setHl_tac (s : State) (w : Word) : (s.setHl w).tac = s.tac := rfl
@[simp] theorem setHl_timaAcc (s : State) (w : Word) : (s.setHl w).timaAcc = s.timaAcc := rfl
@[simp] theorem setHl_lcdc (s : State) (w : Word) : (s.setHl w).lcdc = s.lcdc := rfl
@[simp] theorem setHl_statEn (s : State) (w : Word) : (s.setHl w).statEn = s.statEn := rfl
@[simp] theorem setHl_ppuMode (s : State) (w : Word) : (s.setHl w).ppuMode = s.ppuMode := rfl
@[simp] theorem setHl_modeClock (s : State) (w : Word) : (s.setHl w).modeClock = s.modeClock := rfl
@[simp] theorem setHl_coincidence (s : State) (w : Word) : (s.setHl w).coincidence = s.coincidence := rfl
@[simp] theorem setHl_ly (s : State) (w : Word) : (s.setHl w).ly = s.ly := rfl
@[simp] theorem setHl_lyc (s : State) (w : Word) : (s.setHl w).lyc = s.lyc := rfl
@[simp] theorem setHl_scy (s : State) (w : Word) : (s.setHl w).scy = s.scy := rfl
@[simp] theorem setHl_scx (s : State) (w : Word) : (s.setHl w).scx = s.scx := rfl
@[simp] theorem setHl_bgp (s : State) (w : Word) : (s.setHl w).bgp = s.bgp := rfl
@[simp] theorem setHl_obp0 (s : State) (w : Word) : (s.setHl w).obp0 = s.obp0 := rfl
@[simp] theorem setHl_obp1 (s : State) (w : Word) : (s.setHl w).obp1 = s.obp1 := rfl
@[simp] theorem setHl_wy (s : State) (w : Word) : (s.setHl w).wy = s.wy := rfl
@[simp] theorem setHl_wx (s : State) (w : Word) : (s.setHl w).wx = s.wx := rfl
@[simp] theorem setHl_frame (s : State) (w : Word) : (s.setHl w).frame = s.frame := rfl
@[simp] theorem setHl_sel (s : State) (w : Word) : (s.setHl w).sel = s.sel := rfl
@[simp] theorem setHl_dirRow (s : State) (w : Word) : (s.setHl w).dirRow = s.dirRow := rfl
@[simp] theorem setHl_actRow (s : State) (w : Word) : (s.setHl w).actRow = s.actRow := rfl
@[simp] theorem setHl_haltWakeNeedsIe (s : State) (w : Word) : (s.setHl w).haltWakeNeedsIe = s.haltWakeNeedsIe := rfl
@[simp] theorem setHl_hostEvents (s : State) (w : Word) : (s.setHl w).hostEvents = s.hostEvents := rfl

/-! ## setReg16 -/

@[simp] theorem setReg16_a (s : State) (r : Reg16) (w : Word) : (s.setReg16 r w).a = s.a := by cases r <;> rfl
@[simp] theorem setReg16_f (s : State) (r : Reg16) (w : Word) : (s.setReg16 r w).f = s.f := by cases r <;> rfl
@[simp] theorem setReg16_pc (s : State) (r : Reg16) (w : Word) : (s.setReg16 r w).pc = s.pc := by cases r <;> rfl
@[simp] theorem setReg16_cpuMode (s : State) (r : Reg16) (w : Word) : (s.setReg16 r w).cpuMode = s.cpuMode := by cases r <;> rfl
@[simp] theorem setReg16_ime (s : State) (r : Reg16) (w : Word) : (s.setReg16 r w).ime = s.ime := by cases r <;> rfl
@[simp] theorem setReg16_eiPending (s : State) (r : Reg16) (w : Word) : (s.setReg16 r w).eiPending = s.eiPending := by cases r <;> rfl
@[simp] theorem setReg16_cycles (s : State) (r : Reg16) (w : Word) : (s.setReg16 r w).cycles = s.cycles := by cases r <;> rfl
@[simp] theorem setReg16_rom (s : State) (r : Reg16) (w : Word) : (s.setReg16 r w).rom = s.rom := by cases r <;> rfl
@[simp] theorem setReg16_romSize (s : State) (r : Reg16) (w : Word) : (s.setReg16 r w).romSize = s.romSize := by cases r <;> rfl
@[simp] theorem setReg16_boot (s : State) (r : Reg16) (w : Word) : (s.setReg16 r w).boot = s.boot := by cases r <;> rfl
@[simp] theorem setReg16_vram (s : State) (r : Reg16) (w : Word) : (s.setReg16 r w).vram = s.vram := by cases r <;> rfl
@[simp] theorem setReg16_eram (s : State) (r : Reg16) (w : Word) : (s.setReg16 r w).eram = s.eram := by cases r <;> rfl
@[simp] theorem setReg16_wram (s : State) (r : Reg16) (w : Word) : (s.setReg16 r w).wram = s.wram := by cases r <;> rfl
@[simp] theorem setReg16_oam (s : State) (r : Reg16) (w : Word) : (s.setReg16 r w).oam = s.oam := by cases r <;> rfl
@[simp] theorem setReg16_hram (s : State) (r : Reg16) (w : Word) : (s.setReg16 r w).hram = s.hram := by cases r <;> rfl
@[simp] theorem setReg16_romBank (s : State) (r : Reg16) (w : Word) : (s.setReg16 r w).romBank = s.romBank := by cases r <;> rfl
@[simp] theorem setReg16_ramBank (s : State) (r : Reg16) (w : Word) : (s.setReg16 r w).ramBank = s.ramBank := by cases r <;> rfl
@[simp] theorem setReg16_ramEnabled (s : State) (r : Reg16) (w : Word) : (s.setReg16 r w).ramEnabled = s.ramEnabled := by cases r <;> rfl
@[simp] theorem setReg16_bankingMode (s : State) (r : Reg16) (w : Word) : (s.setReg16 r w).bankingMode = s.bankingMode := by cases r <;> rfl
@[simp] theorem setReg16_cartBanked (s : State) (r : Reg16) (w : Word) : (s.setReg16 r w).cartBanked = s.cartBanked := by cases r <;> rfl
@[simp] theorem setReg16_bootMapped (s : State) (r : Reg16) (w : Word) : (s.setReg16 r w).bootMapped = s.bootMapped := by cases r <;> rfl
@[simp] theorem setReg16_dmaLast (s : State) (r : Reg16) (w : Word) : (s.setReg16 r w).dmaLast = s.dmaLast := by cases r <;> rfl
@[simp] theorem setReg16_ifReg (s : State) (r : Reg16) (w : Word) : (s.setReg16 r w).ifReg = s.ifReg := by cases r <;> rfl
@[simp] theorem setReg16_ieReg (s : State) (r : Reg16) (w : Word) : (s.setReg16 r w).ieReg = s.ieReg := by cases r <;> rfl
@[simp] theorem setReg16_div (s : State) (r : Reg16) (w : Word) : (s.setReg16 r w).div = s.div := by cases r <;> rfl
@[simp] theorem setReg16_divAcc (s : State) (r : Reg16) (w : Word) : (s.setReg16 r w).divAcc = s.divAcc := by cases r <;> rfl
@[simp] theorem setReg16_tima (s : State) (r : Reg16) (w : Word) : (s.setReg16 r w).tima = s.tima := by cases r <;> rfl
@[simp] theorem setReg16_tma (s : State) (r : Reg16) (w : Word) : (s.setReg16 r w).tma = s.tma := by cases r <;> rfl
@[simp] theorem setReg16_tac (s : State) (r : Reg16) (w : Word) : (s.setReg16 r w).tac = s.tac := by cases r <;> rfl
@[simp] theorem setReg16_timaAcc (s : State) (r : Reg16) (w : Word) : (s.setReg16 r w).timaAcc = s.timaAcc := by cases r <;> rfl
@[simp] theorem setReg16_lcdc (s : State) (r : Reg16) (w : Word) : (s.setReg16 r w).lcdc = s.lcdc := by cases r <;> rfl
@[simp] theorem setReg16_statEn (s : State) (r : Reg16) (w : Word) : (s.setReg16 r w).statEn = s.statEn := by cases r <;> rfl
@[simp] theorem setReg16_ppuMode (s : State) (r : Reg16) (w : Word) : (s.setReg16 r w).ppuMode = s.ppuMode := by cases r <;> rfl
@[simp] theorem setReg16_modeClock (s : State) (r : Reg16) (w : Word) : (s.setReg16 r w).modeClock = s.modeClock := by cases r <;> rfl
@[simp] theorem setReg16_coincidence (s : State) (r : Reg16) (w : Word) : (s.setReg16 r w).coincidence = s.coincidence := by cases r <;> rfl
@[simp] theorem setReg16_ly (s : State) (r : Reg16) (w : Word) : (s.setReg16 r w).ly = s.ly := by cases r <;> rfl
@[simp] theorem setReg16_lyc (s : State) (r : Reg16) (w : Word) : (s.setReg16 r w).lyc = s.lyc := by cases r <;> rfl
@[simp] theorem setReg16_scy (s : State) (r : Reg16) (w : Word) : (s.setReg16 r w).scy = s.scy := by cases r <;> rfl
@[simp] theorem setReg16_scx (s : State) (r : Reg16) (w : Word) : (s.setReg16 r w).scx = s.scx := by cases r <;> rfl
@[simp] theorem setReg16_bgp (s : State) (r : Reg16) (w : Word) : (s.setReg16 r w).bgp = s.bgp := by cases r <;> rfl
@[simp] theorem setReg16_obp0 (s : State) (r : Reg16) (w : Word) : (s.setReg16 r w).obp0 = s.obp0 := by cases r <;> rfl
@[simp] theorem setReg16_obp1 (s : State) (r : Reg16) (w : Word) : (s.setReg16 r w).obp1 = s.obp1 := by cases r <;> rfl
@[simp] theorem setReg16_wy (s : State) (r : Reg16) (w : Word) : (s.setReg16 r w).wy = s.wy := by cases r <;> rfl
@[simp] theorem setReg16_wx (s : State) (r : Reg16) (w : Word) : (s.setReg16 r w).wx = s.wx := by cases r <;> rfl
@[simp] theorem setReg16_frame (s : State) (r : Reg16) (w : Word) : (s.setReg16 r w).frame = s.frame := by cases r <;> rfl
@[simp] theorem setReg16_sel (s : State) (r : Reg16) (w : Word) : (s.setReg16 r w).sel = s.sel := by cases r <;> rfl
@[simp] theorem setReg16_dirRow (s : State) (r : Reg16) (w : Word) : (s.setReg16 r w).dirRow = s.dirRow := by cases r <;> rfl
@[simp] theorem setReg16_actRow (s : State) (r : Reg16) (w : Word) : (s.setReg16 r w).actRow = s.actRow := by cases r <;> rfl
@[simp] theorem setReg16_haltWakeNeedsIe (s : State) (r : Reg16) (w : Word) : (s.setReg16 r w).haltWakeNeedsIe = s.haltWakeNeedsIe := by cases r <;> rfl
@[simp] theorem setReg16_hostEvents (s : State) (r : Reg16) (w : Word) : (s.setReg16 r w).hostEvents = s.hostEvents := by cases r <;> rfl

/-! ## setStackPair -/

@[simp] theorem setStackPair_sp (s : State) (q : StackPair) (w : Word) : (s.setStackPair q w).sp = s.sp := by cases q <;> rfl
@[simp] theorem setStackPair_pc (s : State) (q : StackPair) (w : Word) : (s.setStackPair q w).pc = s.pc := by cases q <;> rfl
@[simp] theorem setStackPair_cpuMode (s : State) (q : StackPair) (w : Word) : (s.setStackPair q w).cpuMode = s.cpuMode := by cases q <;> rfl
@[simp] theorem setStackPair_ime (s : State) (q : StackPair) (w : Word) : (s.setStackPair q w).ime = s.ime := by cases q <;> rfl
@[simp] theorem setStackPair_eiPending (s : State) (q : StackPair) (w : Word) : (s.setStackPair q w).eiPending = s.eiPending := by cases q <;> rfl
@[simp] theorem setStackPair_cycles (s : State) (q : StackPair) (w : Word) : (s.setStackPair q w).cycles = s.cycles := by cases q <;> rfl
@[simp] theorem setStackPair_rom (s : State) (q : StackPair) (w : Word) : (s.setStackPair q w).rom = s.rom := by cases q <;> rfl
@[simp] theorem setStackPair_romSize (s : State) (q : StackPair) (w : Word) : (s.setStackPair q w).romSize = s.romSize := by cases q <;> rfl
@[simp] theorem setStackPair_boot (s : State) (q : StackPair) (w : Word) : (s.setStackPair q w).boot = s.boot := by cases q <;> rfl
@[simp] theorem setStackPair_vram (s : State) (q : StackPair) (w : Word) : (s.setStackPair q w).vram = s.vram := by cases q <;> rfl
@[simp] theorem setStackPair_eram (s : State) (q : StackPair) (w : Word) : (s.setStackPair q w).eram = s.eram := by cases q <;> rfl
@[simp] theorem setStackPair_wram (s : State) (q : StackPair) (w : Word) : (s.setStackPair q w).wram = s.wram := by cases q <;> rfl
@[simp] theorem setStackPair_oam (s : State) (q : StackPair) (w : Word) : (s.setStackPair q w).oam = s.oam := by cases q <;> rfl
@[simp] theorem setStackPair_hram (s : State) (q : StackPair) (w : Word) : (s.setStackPair q w).hram = s.hram := by cases q <;> rfl
@[simp] theorem setStackPair_romBank (s : State) (q : StackPair) (w : Word) : (s.setStackPair q w).romBank = s.romBank := by cases q <;> rfl
@[simp] theorem setStackPair_ramBank (s : State) (q : StackPair) (w : Word) : (s.setStackPair q w).ramBank = s.ramBank := by cases q <;> rfl
@[simp] theorem setStackPair_ramEnabled (s : State) (q : StackPair) (w : Word) : (s.setStackPair q w).ramEnabled = s.ramEnabled := by cases q <;> rfl
@[simp] theorem setStackPair_bankingMode (s : State) (q : StackPair) (w : Word) : (s.setStackPair q w).bankingMode = s.bankingMode := by cases q <;> rfl
@[simp] theorem setStackPair_cartBanked (s : State) (q : StackPair) (w : Word) : (s.setStackPair q w).cartBanked = s.cartBanked := by cases q <;> rfl
@[simp] theorem setStackPair_bootMapped (s : State) (q : StackPair) (w : Word) : (s.setStackPair q w).bootMapped = s.bootMapped := by cases q <;> rfl
@[simp] theorem setStackPair_dmaLast (s : State) (q : StackPair) (w : Word) : (s.setStackPair q w).dmaLast = s.dmaLast := by cases q <;> rfl
@[simp] theorem setStackPair_ifReg (s : State) (q : StackPair) (w : Word) : (s.setStackPair q w).ifReg = s.ifReg := by cases q <;> rfl
@[simp] theorem setStackPair_ieReg (s : State) (q : StackPair) (w : Word) : (s.setStackPair q w).ieReg = s.ieReg := by cases q <;> rfl
@[simp] theorem setStackPair_div (s : State) (q : StackPair) (w : Word) : (s.setStackPair q w).div = s.div := by cases q <;> rfl
@[simp] theorem setStackPair_divAcc (s : State) (q : StackPair) (w : Word) : (s.setStackPair q w).divAcc = s.divAcc := by cases q <;> rfl
@[simp] theorem setStackPair_tima (s : State) (q : StackPair) (w : Word) : (s.setStackPair q w).tima = s.tima := by cases q <;> rfl
@[simp] theorem setStackPair_tma (s : State) (q : StackPair) (w : Word) : (s.setStackPair q w).tma = s.tma := by cases q <;> rfl
@[simp] theorem setStackPair_tac (s : State) (q : StackPair) (w : Word) : (s.setStackPair q w).tac = s.tac := by cases q <;> rfl
@[simp] theorem setStackPair_timaAcc (s : State) (q : StackPair) (w : Word) : (s.setStackPair q w).timaAcc = s.timaAcc := by cases q <;> rfl
@[simp] theorem setStackPair_lcdc (s : State) (q : StackPair) (w : Word) : (s.setStackPair q w).lcdc = s.lcdc := by cases q <;> rfl
@[simp] theorem setStackPair_statEn (s : State) (q : StackPair) (w : Word) : (s.setStackPair q w).statEn = s.statEn := by cases q <;> rfl
@[simp] theorem setStackPair_ppuMode (s : State) (q : StackPair) (w : Word) : (s.setStackPair q w).ppuMode = s.ppuMode := by cases q <;> rfl
@[simp] theorem setStackPair_modeClock (s : State) (q : StackPair) (w : Word) : (s.setStackPair q w).modeClock = s.modeClock := by cases q <;> rfl
@[simp] theorem setStackPair_coincidence (s : State) (q : StackPair) (w : Word) : (s.setStackPair q w).coincidence = s.coincidence := by cases q <;> rfl
@[simp] theorem setStackPair_ly (s : State) (q : StackPair) (w : Word) : (s.setStackPair q w).ly = s.ly := by cases q <;> rfl
@[simp] theorem setStackPair_lyc (s : State) (q : StackPair) (w : Word) : (s.setStackPair q w).lyc = s.lyc := by cases q <;> rfl
@[simp] theorem setStackPair_scy (s : State) (q : StackPair) (w : Word) : (s.setStackPair q w).scy = s.scy := by cases q <;> rfl
@[simp] theorem setStackPair_scx (s : State) (q : StackPair) (w : Word) : (s.setStackPair q w).scx = s.scx := by cases q <;> rfl
@[simp] theorem setStackPair_bgp (s : State) (q : StackPair) (w : Word) : (s.setStackPair q w).bgp = s.bgp := by cases q <;> rfl
@[simp] theorem setStackPair_obp0 (s : State) (q : StackPair) (w : Word) : (s.setStackPair q w).obp0 = s.obp0 := by cases q <;> rfl
@[simp] theorem setStackPair_obp1 (s : State) (q : StackPair) (w : Word) : (s.setStackPair q w).obp1 = s.obp1 := by cases q <;> rfl
@[simp] theorem setStackPair_wy (s : State) (q : StackPair) (w : Word) : (s.setStackPair q w).wy = s.wy := by cases q <;> rfl
@[simp] theorem setStackPair_wx (s : State) (q : StackPair) (w : Word) : (s.setStackPair q w).wx = s.wx := by cases q <;> rfl
@[simp] theorem setStackPair_frame (s : State) (q : StackPair) (w : Word) : (s.setStackPair q w).frame = s.frame := by cases q <;> rfl
@[simp] theorem setStackPair_sel (s : State) (q : StackPair) (w : Word) : (s.setStackPair q w).sel = s.sel := by cases q <;> rfl
@[simp] theorem setStackPair_dirRow (s : State) (q : StackPair) (w : Word) : (s.setStackPair q w).dirRow = s.dirRow := by cases q <;> rfl
@[simp] theorem setStackPair_actRow (s : State) (q : StackPair) (w : Word) : (s.setStackPair q w).actRow = s.actRow := by cases q <;> rfl
@[simp] theorem setStackPair_haltWakeNeedsIe (s : State) (q : StackPair) (w : Word) : (s.setStackPair q w).haltWakeNeedsIe = s.haltWakeNeedsIe := by cases q <;> rfl
@[simp] theorem setStackPair_hostEvents (s : State) (q : StackPair) (w : Word) : (s.setStackPair q w).hostEvents = s.hostEvents := by cases q <;> rfl

/-! ## setFlags -/

@[simp] theorem setFlags_a (s : State) (fl : Flags) : (s.setFlags fl).a = s.a := rfl
@[simp] theorem setFlags_f (s : State) (fl : Flags) : (s.setFlags fl).f = packFlags fl := rfl
@[simp] theorem setFlags_b (s : State) (fl : Flags) : (s.setFlags fl).b = s.b := rfl
@[simp] theorem setFlags_c (s : State) (fl : Flags) : (s.setFlags fl).c = s.c := rfl
@[simp] theorem setFlags_d (s : State) (fl : Flags) : (s.setFlags fl).d = s.d := rfl
@[simp] theorem setFlags_e (s : State) (fl : Flags) : (s.setFlags fl).e = s.e := rfl
@[simp] theorem setFlags_h (s : State) (fl : Flags) : (s.setFlags fl).h = s.h := rfl
@[simp] theorem setFlags_l (s : State) (fl : Flags) : (s.setFlags fl).l = s.l := rfl
@[simp] theorem setFlags_sp (s : State) (fl : Flags) : (s.setFlags fl).sp = s.sp := rfl
@[simp] theorem setFlags_pc (s : State) (fl : Flags) : (s.setFlags fl).pc = s.pc := rfl
@[simp] theorem setFlags_cpuMode (s : State) (fl : Flags) : (s.setFlags fl).cpuMode = s.cpuMode := rfl
@[simp] theorem setFlags_ime (s : State) (fl : Flags) : (s.setFlags fl).ime = s.ime := rfl
@[simp] theorem setFlags_eiPending (s : State) (fl : Flags) : (s.setFlags fl).eiPending = s.eiPending := rfl
@[simp] theorem setFlags_cycles (s : State) (fl : Flags) : (s.setFlags fl).cycles = s.cycles := rfl
@[simp] theorem setFlags_rom (s : State) (fl : Flags) : (s.setFlags fl).rom = s.rom := rfl
@[simp] theorem setFlags_romSize (s : State) (fl : Flags) : (s.setFlags fl).romSize = s.romSize := rfl
@[simp] theorem setFlags_boot (s : State) (fl : Flags) : (s.setFlags fl).boot = s.boot := rfl
@[simp] theorem setFlags_vram (s : State) (fl : Flags) : (s.setFlags fl).vram = s.vram := rfl
@[simp] theorem setFlags_eram (s : State) (fl : Flags) : (s.setFlags fl).eram = s.eram := rfl
@[simp] theorem setFlags_wram (s : State) (fl : Flags) : (s.setFlags fl).wram = s.wram := rfl
@[simp] theorem setFlags_oam (s : State) (fl : Flags) : (s.setFlags fl).oam = s.oam := rfl
@[simp] theorem setFlags_hram (s : State) (fl : Flags) : (s.setFlags fl).hram = s.hram := rfl
@[simp] theorem setFlags_romBank (s : State) (fl : Flags) : (s.setFlags fl).romBank = s.romBank := rfl
@[simp] theorem setFlags_ramBank (s : State) (fl : Flags) : (s.setFlags fl).ramBank = s.ramBank := rfl
@[simp] theorem setFlags_ramEnabled (s : State) (fl : Flags) : (s.setFlags fl).ramEnabled = s.ramEnabled := rfl
@[simp] theorem setFlags_bankingMode (s : State) (fl : Flags) : (s.setFlags fl).bankingMode = s.bankingMode := rfl
@[simp] theorem setFlags_cartBanked (s : State) (fl : Flags) : (s.setFlags fl).cartBanked = s.cartBanked := rfl
@[simp] theorem setFlags_bootMapped (s : State) (fl : Flags) : (s.setFlags fl).bootMapped = s.bootMapped := rfl
@[simp] theorem setFlags_dmaLast (s : State) (fl : Flags) : (s.setFlags fl).dmaLast = s.dmaLast := rfl
@[simp] theorem setFlags_ifReg (s : State) (fl : Flags) : (s.setFlags fl).ifReg = s.ifReg := rfl
@[simp] theorem setFlags_ieReg (s : State) (fl : Flags) : (s.setFlags fl).ieReg = s.ieReg := rfl
@[simp] theorem setFlags_div (s : State) (fl : Flags) : (s.setFlags fl).div = s.div := rfl
@[simp] theorem setFlags_divAcc (s : State) (fl : Flags) : (s.setFlags fl).divAcc = s.divAcc := rfl
@[simp] theorem setFlags_tima (s : State) (fl : Flags) : (s.setFlags fl).tima = s.tima := rfl
@[simp] theorem setFlags_tma (s : State) (fl : Flags) : (s.setFlags fl).tma = s.tma := rfl
@[simp] theorem setFlags_tac (s : State) (fl : Flags) : (s.setFlags fl).tac = s.tac := rfl
@[simp] theorem setFlags_timaAcc (s : State) (fl : Flags) : (s.setFlags fl).timaAcc = s.timaAcc := rfl
@[simp] theorem setFlags_lcdc (s : State) (fl : Flags) : (s.setFlags fl).lcdc = s.lcdc := rfl
@[simp] theorem setFlags_statEn (s : State) (fl : Flags) : (s.setFlags fl).statEn = s.statEn := rfl
@[simp] theorem setFlags_ppuMode (s : State) (fl : Flags) : (s.setFlags fl).ppuMode = s.ppuMode := rfl
@[simp] theorem setFlags_modeClock (s : State) (fl : Flags) : (s.setFlags fl).modeClock = s.modeClock := rfl
@[simp] theorem setFlags_coincidence (s : State) (fl : Flags) : (s.setFlags fl).coincidence = s.coincidence := rfl
@[simp] theorem setFlags_ly (s : State) (fl : Flags) : (s.setFlags fl).ly = s.ly := rfl
@[simp] theorem setFlags_lyc (s : State) (fl : Flags) : (s.setFlags fl).lyc = s.lyc := rfl
@[simp] theorem setFlags_scy (s : State) (fl : Flags) : (s.setFlags fl).scy = s.scy := rfl
@[simp] theorem setFlags_scx (s : State) (fl : Flags) : (s.setFlags fl).scx = s.scx := rfl
@[simp] theorem setFlags_bgp (s : State) (fl : Flags) : (s.setFlags fl).bgp = s.bgp := rfl
@[simp] theorem setFlags_obp0 (s : State) (fl : Flags) : (s.setFlags fl).obp0 = s.obp0 := rfl
@[simp] theorem setFlags_obp1 (s : State) (fl : Flags) : (s.setFlags fl).obp1 = s.obp1 := rfl
@[simp] theorem setFlags_wy (s : State) (fl : Flags) : (s.setFlags fl).wy = s.wy := rfl
@[simp] theorem setFlags_wx (s : State) (fl : Flags) : (s.setFlags fl).wx = s.wx := rfl
@[simp] theorem setFlags_frame (s : State) (fl : Flags) : (s.setFlags fl).frame = s.frame := rfl
@[simp] theorem setFlags_sel (s : State) (fl : Flags) : (s.setFlags fl).sel = s.sel := rfl
@[simp] theorem setFlags_dirRow (s : State) (fl : Flags) : (s.setFlags fl).dirRow = s.dirRow := rfl
@[simp] theorem setFlags_actRow (s : State) (fl : Flags) : (s.setFlags fl).actRow = s.actRow := rfl
@[simp] theorem setFlags_haltWakeNeedsIe (s : State) (fl : Flags) : (s.setFlags fl).haltWakeNeedsIe = s.haltWakeNeedsIe := rfl
@[simp] theorem setFlags_hostEvents (s : State) (fl : Flags) : (s.setFlags fl).hostEvents = s.hostEvents := rfl

/-! ## request -/

@[simp] theorem request_a (i : IrqSource) (s : State) : (request i s).a = s.a := rfl
@[simp] theorem request_f (i : IrqSource) (s : State) : (request i s).f = s.f := rfl
@[simp] theorem request_b (i : IrqSource) (s : State) : (request i s).b = s.b := rfl
@[simp] theorem request_c (i : IrqSource) (s : State) : (request i s).c = s.c := rfl
@[simp] theorem request_d (i : IrqSource) (s : State) : (request i s).d = s.d := rfl
@[simp] theorem request_e (i : IrqSource) (s : State) : (request i s).e = s.e := rfl
@[simp] theorem request_h (i : IrqSource) (s : State) : (request i s).h = s.h := rfl
@[simp] theorem request_l (i : IrqSource) (s : State) : (request i s).l = s.l := rfl
@[simp] theorem request_sp (i : IrqSource) (s : State) : (request i s).sp = s.sp := rfl
@[simp] theorem request_pc (i : IrqSource) (s : State) : (request i s).pc = s.pc := rfl
@[simp] theorem request_cpuMode (i : IrqSource) (s : State) : (request i s).cpuMode = s.cpuMode := rfl
@[simp] theorem request_ime (i : IrqSource) (s : State) : (request i s).ime = s.ime := rfl
@[simp] theorem request_eiPending (i : IrqSource) (s : State) : (request i s).eiPending = s.eiPending := rfl
@[simp] theorem request_cycles (i : IrqSource) (s : State) : (request i s).cycles = s.cycles := rfl
@[simp] theorem request_rom (i : IrqSource) (s : State) : (request i s).rom = s.rom := rfl
@[simp] theorem request_romSize (i : IrqSource) (s : State) : (request i s).romSize = s.romSize := rfl
@[simp] theorem request_boot (i : IrqSource) (s : State) : (request i s).boot = s.boot := rfl
@[simp] theorem request_vram (i : IrqSource) (s : State) : (request i s).vram = s.vram := rfl
@[simp] theorem request_eram (i : IrqSource) (s : State) : (request i s).eram = s.eram := rfl
@[simp] theorem request_wram (i : IrqSource) (s : State) : (request i s).wram = s.wram := rfl
@[simp] theorem request_oam (i : IrqSource) (s : State) : (request i s).oam = s.oam := rfl
@[simp] theorem request_hram (i : IrqSource) (s : State) : (request i s).hram = s.hram := rfl
@[simp] theorem request_romBank (i : IrqSource) (s : State) : (request i s).romBank = s.romBank := rfl
@[simp] theorem request_ramBank (i : IrqSource) (s : State) : (request i s).ramBank = s.ramBank := rfl
@[simp] theorem request_ramEnabled (i : IrqSource) (s : State) : (request i s).ramEnabled = s.ramEnabled := rfl
@[simp] theorem request_bankingMode (i : IrqSource) (s : State) : (request i s).bankingMode = s.bankingMode := rfl
@[simp] theorem request_cartBanked (i : IrqSource) (s : State) : (request i s).cartBanked = s.cartBanked := rfl
@[simp] theorem request_bootMapped (i : IrqSource) (s : State) : (request i s).bootMapped = s.bootMapped := rfl
@[simp] theorem request_dmaLast (i : IrqSource) (s : State) : (request i s).dmaLast = s.dmaLast := rfl
@[simp] theorem request_ifReg (i : IrqSource) (s : State) : (request i s).ifReg = s.ifReg ||| irqMask i := rfl
@[simp] theorem request_ieReg (i : IrqSource) (s : State) : (request i s).ieReg = s.ieReg := rfl
@[simp] theorem request_div (i : IrqSource) (s : State) : (request i s).div = s.div := rfl
@[simp] theorem request_divAcc (i : IrqSource) (s : State) : (request i s).divAcc = s.divAcc := rfl
@[simp] theorem request_tima (i : IrqSource) (s : State) : (request i s).tima = s.tima := rfl
@[simp] theorem request_tma (i : IrqSource) (s : State) : (request i s).tma = s.tma := rfl
@[simp] theorem request_tac (i : IrqSource) (s : State) : (request i s).tac = s.tac := rfl
@[simp] theorem request_timaAcc (i : IrqSource) (s : State) : (request i s).timaAcc = s.timaAcc := rfl
@[simp] theorem request_lcdc (i : IrqSource) (s : State) : (request i s).lcdc = s.lcdc := rfl
@[simp] theorem request_statEn (i : IrqSource) (s : State) : (request i s).statEn = s.statEn := rfl
@[simp] theorem request_ppuMode (i : IrqSource) (s : State) : (request i s).ppuMode = s.ppuMode := rfl
@[simp] theorem request_modeClock (i : IrqSource) (s : State) : (request i s).modeClock = s.modeClock := rfl
@[simp] theorem request_coincidence (i : IrqSource) (s : State) : (request i s).coincidence = s.coincidence := rfl
@[simp] theorem request_ly (i : IrqSource) (s : State) : (request i s).ly = s.ly := rfl
@[simp] theorem request_lyc (i : IrqSource) (s : State) : (request i s).lyc = s.lyc := rfl
@[simp] theorem request_scy (i : IrqSource) (s : State) : (request i s).scy = s.scy := rfl
@[simp] theorem request_scx (i : IrqSource) (s : State) : (request i s).scx = s.scx := rfl
@[simp] theorem request_bgp (i : IrqSource) (s : State) : (request i s).bgp = s.bgp := rfl
@[simp] theorem request_obp0 (i : IrqSource) (s : State) : (request i s).obp0 = s.obp0 := rfl
@[simp] theorem request_obp1 (i : IrqSource) (s : State) : (request i s).obp1 = s.obp1 := rfl
@[simp] theorem request_wy (i : IrqSource) (s : State) : (request i s).wy = s.wy := rfl
@[simp] theorem request_wx (i : IrqSource) (s : State) : (request i s).wx = s.wx := rfl
@[simp] theorem request_frame (i : IrqSource) (s : State) : (request i s).frame = s.frame := rfl
@[simp] theorem request_sel (i : IrqSource) (s : State) : (request i s).sel = s.sel := rfl
@[simp] theorem request_dirRow (i : IrqSource) (s : State) : (request i s).dirRow = s.dirRow := rfl
@[simp] theorem request_actRow (i : IrqSource) (s : State) : (request i s).actRow = s.actRow := rfl
@[simp] theorem request_haltWakeNeedsIe (i : IrqSource) (s : State) : (request i s).haltWakeNeedsIe = s.haltWakeNeedsIe := rfl
@[simp] theorem request_hostEvents (i : IrqSource) (s : State) : (request i s).hostEvents = s.hostEvents := rfl

/-! ## clearRequest -/

@[simp] theorem clearRequest_a (i : IrqSource) (s : State) : (clearRequest i s).a = s.a := rfl
@[simp] theorem clearRequest_f (i : IrqSource) (s : State) : (clearRequest i s).f = s.f := rfl
@[simp] theorem clearRequest_b (i : IrqSource) (s : State) : (clearRequest i s).b = s.b := rfl
@[simp] theorem clearRequest_c (i : IrqSource) (s : State) : (clearRequest i s).c = s.c := rfl
@[simp] theorem clearRequest_d (i : IrqSource) (s : State) : (clearRequest i s).d = s.d := rfl
@[simp] theorem clearRequest_e (i : IrqSource) (s : State) : (clearRequest i s).e = s.e := rfl
@[simp] theorem clearRequest_h (i : IrqSource) (s : State) : (clearRequest i s).h = s.h := rfl
@[simp] theorem clearRequest_l (i : IrqSource) (s : State) : (clearRequest i s).l = s.l := rfl
@[simp] theorem clearRequest_sp (i : IrqSource) (s : State) : (clearRequest i s).sp = s.sp := rfl
@[simp] theorem clearRequest_pc (i : IrqSource) (s : State) : (clearRequest i s).pc = s.pc := rfl
@[simp] theorem clearRequest_cpuMode (i : IrqSource) (s : State) : (clearRequest i s).cpuMode = s.cpuMode := rfl
@[simp] theorem clearRequest_ime (i : IrqSource) (s : State) : (clearRequest i s).ime = s.ime := rfl
@[simp] theorem clearRequest_eiPending (i : IrqSource) (s : State) : (clearRequest i s).eiPending = s.eiPending := rfl
@[simp] theorem clearRequest_cycles (i : IrqSource) (s : State) : (clearRequest i s).cycles = s.cycles := rfl
@[simp] theorem clearRequest_rom (i : IrqSource) (s : State) : (clearRequest i s).rom = s.rom := rfl
@[simp] theorem clearRequest_romSize (i : IrqSource) (s : State) : (clearRequest i s).romSize = s.romSize := rfl
@[simp] theorem clearRequest_boot (i : IrqSource) (s : State) : (clearRequest i s).boot = s.boot := rfl
@[simp] theorem clearRequest_vram (i : IrqSource) (s : State) : (clearRequest i s).vram = s.vram := rfl
@[simp] theorem clearRequest_eram (i : IrqSource) (s : State) : (clearRequest i s).eram = s.eram := rfl
@[simp] theorem clearRequest_wram (i : IrqSource) (s : State) : (clearRequest i s).wram = s.wram := rfl
@[simp] theorem clearRequest_oam (i : IrqSource) (s : State) : (clearRequest i s).oam = s.oam := rfl
@[simp] theorem clearRequest_hram (i : IrqSource) (s : State) : (clearRequest i s).hram = s.hram := rfl
@[simp] theorem clearRequest_romBank (i : IrqSource) (s : State) : (clearRequest i s).romBank = s.romBank := rfl
@[simp] theorem clearRequest_ramBank (i : IrqSource) (s : State) : (clearRequest i s).ramBank = s.ramBank := rfl
@[simp] theorem clearRequest_ramEnabled (i : IrqSource) (s : State) : (clearRequest i s).ramEnabled = s.ramEnabled := rfl
@[simp] theorem clearRequest_bankingMode (i : IrqSource) (s : State) : (clearRequest i s).bankingMode = s.bankingMode := rfl
@[simp] theorem clearRequest_cartBanked (i : IrqSource) (s : State) : (clearRequest i s).cartBanked = s.cartBanked := rfl
@[simp] theorem clearRequest_bootMapped (i : IrqSource) (s : State) : (clearRequest i s).bootMapped = s.bootMapped := rfl
@[simp] theorem clearRequest_dmaLast (i : IrqSource) (s : State) : (clearRequest i s).dmaLast = s.dmaLast := rfl
@[simp] theorem clearRequest_ifReg (i : IrqSource) (s : State) : (clearRequest i s).ifReg = s.ifReg &&& ~~~(irqMask i) := rfl
@[simp] theorem clearRequest_ieReg (i : IrqSource) (s : State) : (clearRequest i s).ieReg = s.ieReg := rfl
@[simp] theorem clearRequest_div (i : IrqSource) (s : State) : (clearRequest i s).div = s.div := rfl
@[simp] theorem clearRequest_divAcc (i : IrqSource) (s : State) : (clearRequest i s).divAcc = s.divAcc := rfl
@[simp] theorem clearRequest_tima (i : IrqSource) (s : State) : (clearRequest i s).tima = s.tima := rfl
@[simp] theorem clearRequest_tma (i : IrqSource) (s : State) : (clearRequest i s).tma = s.tma := rfl
@[simp] theorem clearRequest_tac (i : IrqSource) (s : State) : (clearRequest i s).tac = s.tac := rfl
@[simp] theorem clearRequest_timaAcc (i : IrqSource) (s : State) : (clearRequest i s).timaAcc = s.timaAcc := rfl
@[simp] theorem clearRequest_lcdc (i : IrqSource) (s : State) : (clearRequest i s).lcdc = s.lcdc := rfl
@[simp] theorem clearRequest_statEn (i : IrqSource) (s : State) : (clearRequest i s).statEn = s.statEn := rfl
@[simp] theorem clearRequest_ppuMode (i : IrqSource) (s : State) : (clearRequest i s).ppuMode = s.ppuMode := rfl
@[simp] theorem clearRequest_modeClock (i : IrqSource) (s : State) : (clearRequest i s).modeClock = s.modeClock := rfl
@[simp] theorem clearRequest_coincidence (i : IrqSource) (s : State) : (clearRequest i s).coincidence = s.coincidence := rfl
@[simp] theorem clearRequest_ly (i : IrqSource) (s : State) : (clearRequest i s).ly = s.ly := rfl
@[simp] theorem clearRequest_lyc (i : IrqSource) (s : State) : (clearRequest i s).lyc = s.lyc := rfl
@[simp] theorem clearRequest_scy (i : IrqSource) (s : State) : (clearRequest i s).scy = s.scy := rfl
@[simp] theorem clearRequest_scx (i : IrqSource) (s : State) : (clearRequest i s).scx = s.scx := rfl
@[simp] theorem clearRequest_bgp (i : IrqSource) (s : State) : (clearRequest i s).bgp = s.bgp := rfl
@[simp] theorem clearRequest_obp0 (i : IrqSource) (s : State) : (clearRequest i s).obp0 = s.obp0 := rfl
@[simp] theorem clearRequest_obp1 (i : IrqSource) (s : State) : (clearRequest i s).obp1 = s.obp1 := rfl
@[simp] theorem clearRequest_wy (i : IrqSource) (s : State) : (clearRequest i s).wy = s.wy := rfl
@[simp] theorem clearRequest_wx (i : IrqSource) (s : State) : (clearRequest i s).wx = s.wx := rfl
@[simp] theorem clearRequest_frame (i : IrqSource) (s : State) : (clearRequest i s).frame = s.frame := rfl
@[simp] theorem clearRequest_sel (i : IrqSource) (s : State) : (clearRequest i s).sel = s.sel := rfl
@[simp] theorem clearRequest_dirRow (i : IrqSource) (s : State) : (clearRequest i s).dirRow = s.dirRow := rfl
@[simp] theorem clearRequest_actRow (i : IrqSource) (s : State) : (clearRequest i s).actRow = s.actRow := rfl
@[simp] theorem clearRequest_haltWakeNeedsIe (i : IrqSource) (s : State) : (clearRequest i s).haltWakeNeedsIe = s.haltWakeNeedsIe := rfl
@[simp] theorem clearRequest_hostEvents (i : IrqSource) (s : State) : (clearRequest i s).hostEvents = s.hostEvents := rfl

/-! ## coincidenceUpdate -/

@[simp] theorem coincidenceUpdate_a (s : State) : (coincidenceUpdate s).a = s.a := by unfold coincidenceUpdate; dsimp only; split <;> rfl
@[simp] theorem coincidenceUpdate_f (s : State) : (coincidenceUpdate s).f = s.f := by unfold coincidenceUpdate; dsimp only; split <;> rfl
@[simp] theorem coincidenceUpdate_b (s : State) : (coincidenceUpdate s).b = s.b := by unfold coincidenceUpdate; dsimp only; split <;> rfl
@[simp] theorem coincidenceUpdate_c (s : State) : (coincidenceUpdate s).c = s.c := by unfold coincidenceUpdate; dsimp only; split <;> rfl
@[simp] theorem coincidenceUpdate_d (s : State) : (coincidenceUpdate s).d = s.d := by unfold coincidenceUpdate; dsimp only; split <;> rfl
@[simp] theorem coincidenceUpdate_e (s : State) : (coincidenceUpdate s).e = s.e := by unfold coincidenceUpdate; dsimp only; split <;> rfl
@[simp] theorem coincidenceUpdate_h (s : State) : (coincidenceUpdate s).h = s.h := by unfold coincidenceUpdate; dsimp only; split <;> rfl
@[simp] theorem coincidenceUpdate_l (s : State) : (coincidenceUpdate s).l = s.l := by unfold coincidenceUpdate; dsimp only; split <;> rfl
@[simp] theorem coincidenceUpdate_sp (s : State) : (coincidenceUpdate s).sp = s.sp := by unfold coincidenceUpdate; dsimp only; split <;> rfl
@[simp] theorem coincidenceUpdate_pc (s : State) : (coincidenceUpdate s).pc = s.pc := by unfold coincidenceUpdate; dsimp only; split <;> rfl
@[simp] theorem coincidenceUpdate_cpuMode (s : State) : (coincidenceUpdate s).cpuMode = s.cpuMode := by unfold coincidenceUpdate; dsimp only; split <;> rfl
@[simp] theorem coincidenceUpdate_ime (s : State) : (coincidenceUpdate s).ime = s.ime := by unfold coincidenceUpdate; dsimp only; split <;> rfl
@[simp] theorem coincidenceUpdate_eiPending (s : State) : (coincidenceUpdate s).eiPending = s.eiPending := by unfold coincidenceUpdate; dsimp only; split <;> rfl
@[simp] theorem coincidenceUpdate_cycles (s : State) : (coincidenceUpdate s).cycles = s.cycles := by unfold coincidenceUpdate; dsimp only; split <;> rfl
@[simp] theorem coincidenceUpdate_rom (s : State) : (coincidenceUpdate s).rom = s.rom := by unfold coincidenceUpdate; dsimp only; split <;> rfl
@[simp] theorem coincidenceUpdate_romSize (s : State) : (coincidenceUpdate s).romSize = s.romSize := by unfold coincidenceUpdate; dsimp only; split <;> rfl
@[simp] theorem coincidenceUpdate_boot (s : State) : (coincidenceUpdate s).boot = s.boot := by unfold coincidenceUpdate; dsimp only; split <;> rfl
@[simp] theorem coincidenceUpdate_vram (s : State) : (coincidenceUpdate s).vram = s.vram := by unfold coincidenceUpdate; dsimp only; split <;> rfl
@[simp] theorem coincidenceUpdate_eram (s : State) : (coincidenceUpdate s).eram = s.eram := by unfold coincidenceUpdate; dsimp only; split <;> rfl
@[simp] theorem coincidenceUpdate_wram (s : State) : (coincidenceUpdate s).wram = s.wram := by unfold coincidenceUpdate; dsimp only; split <;> rfl
@[simp] theorem coincidenceUpdate_oam (s : State) : (coincidenceUpdate s).oam = s.oam := by unfold coincidenceUpdate; dsimp only; split <;> rfl
@[simp] theorem coincidenceUpdate_hram (s : State) : (coincidenceUpdate s).hram = s.hram := by unfold coincidenceUpdate; dsimp only; split <;> rfl
@[simp] theorem coincidenceUpdate_romBank (s : State) : (coincidenceUpdate s).romBank = s.romBank := by unfold coincidenceUpdate; dsimp only; split <;> rfl
@[simp] theorem coincidenceUpdate_ramBank (s : State) : (coincidenceUpdate s).ramBank = s.ramBank := by unfold coincidenceUpdate; dsimp only; split <;> rfl
@[simp] theorem coincidenceUpdate_ramEnabled (s : State) : (coincidenceUpdate s).ramEnabled = s.ramEnabled := by unfold coincidenceUpdate; dsimp only; split <;> rfl
@[simp] theorem coincidenceUpdate_bankingMode (s : State) : (coincidenceUpdate s).bankingMode = s.bankingMode := by unfold coincidenceUpdate; dsimp only; split <;> rfl
@[simp] theorem coincidenceUpdate_cartBanked (s : State) : (coincidenceUpdate s).cartBanked = s.cartBanked := by unfold coincidenceUpdate; dsimp only; split <;> rfl
@[simp] theorem coincidenceUpdate_bootMapped (s : State) : (coincidenceUpdate s).bootMapped = s.bootMapped := by unfold coincidenceUpdate; dsimp only; split <;> rfl
@[simp] theorem coincidenceUpdate_dmaLast (s : State) : (coincidenceUpdate s).dmaLast = s.dmaLast := by unfold coincidenceUpdate; dsimp only; split <;> rfl
@[simp] theorem coincidenceUpdate_ieReg (s : State) : (coincidenceUpdate s).ieReg = s.ieReg := by unfold coincidenceUpdate; dsimp only; split <;> rfl
@[simp] theorem coincidenceUpdate_div (s : State) : (coincidenceUpdate s).div = s.div := by unfold coincidenceUpdate; dsimp only; split <;> rfl
@[simp] theorem coincidenceUpdate_divAcc (s : State) : (coincidenceUpdate s).divAcc = s.divAcc := by unfold coincidenceUpdate; dsimp only; split <;> rfl
@[simp] theorem coincidenceUpdate_tima (s : State) : (coincidenceUpdate s).tima = s.tima := by unfold coincidenceUpdate; dsimp only; split <;> rfl
@[simp] theorem coincidenceUpdate_tma (s : State) : (coincidenceUpdate s).tma = s.tma := by unfold coincidenceUpdate; dsimp only; split <;> rfl
@[simp] theorem coincidenceUpdate_tac (s : State) : (coincidenceUpdate s).tac = s.tac := by unfold coincidenceUpdate; dsimp only; split <;> rfl
@[simp] theorem coincidenceUpdate_timaAcc (s : State) : (coincidenceUpdate s).timaAcc = s.timaAcc := by unfold coincidenceUpdate; dsimp only; split <;> rfl
@[simp] theorem coincidenceUpdate_lcdc (s : State) : (coincidenceUpdate s).lcdc = s.lcdc := by unfold coincidenceUpdate; dsimp only; split <;> rfl
@[simp] theorem coincidenceUpdate_statEn (s : State) : (coincidenceUpdate s).statEn = s.statEn := by unfold coincidenceUpdate; dsimp only; split <;> rfl
@[simp] theorem coincidenceUpdate_ppuMode (s : State) : (coincidenceUpdate s).ppuMode = s.ppuMode := by unfold coincidenceUpdate; dsimp only; split <;> rfl
@[simp] theorem coincidenceUpdate_modeClock (s : State) : (coincidenceUpdate s).modeClock = s.modeClock := by unfold coincidenceUpdate; dsimp only; split <;> rfl
@[simp] theorem coincidenceUpdate_coincidence (s : State) : (coincidenceUpdate s).coincidence = decide (s.ly = s.lyc) := rfl
@[simp] theorem coincidenceUpdate_ly (s : State) : (coincidenceUpdate s).ly = s.ly := by unfold coincidenceUpdate; dsimp only; split <;> rfl
@[simp] theorem coincidenceUpdate_lyc (s : State) : (coincidenceUpdate s).lyc = s.lyc := by unfold coincidenceUpdate; dsimp only; split <;> rfl
@[simp] theorem coincidenceUpdate_scy (s : State) : (coincidenceUpdate s).scy = s.scy := by unfold coincidenceUpdate; dsimp only; split <;> rfl
@[simp] theorem coincidenceUpdate_scx (s : State) : (coincidenceUpdate s).scx = s.scx := by unfold coincidenceUpdate; dsimp only; split <;> rfl
@[simp] theorem coincidenceUpdate_bgp (s : State) : (coincidenceUpdate s).bgp = s.bgp := by unfold coincidenceUpdate; dsimp only; split <;> rfl
@[simp] theorem coincidenceUpdate_obp0 (s : State) : (coincidenceUpdate s).obp0 = s.obp0 := by unfold coincidenceUpdate; dsimp only; split <;> rfl
@[simp] theorem coincidenceUpdate_obp1 (s : State) : (coincidenceUpdate s).obp1 = s.obp1 := by unfold coincidenceUpdate; dsimp only; split <;> rfl
@[simp] theorem coincidenceUpdate_wy (s : State) : (coincidenceUpdate s).wy = s.wy := by unfold coincidenceUpdate; dsimp only; split <;> rfl
@[simp] theorem coincidenceUpdate_wx (s : State) : (coincidenceUpdate s).wx = s.wx := by unfold coincidenceUpdate; dsimp only; split <;> rfl
@[simp] theorem coincidenceUpdate_frame (s : State) : (coincidenceUpdate s).frame = s.frame := by unfold coincidenceUpdate; dsimp only; split <;> rfl
@[simp] theorem coincidenceUpdate_sel (s : State) : (coincidenceUpdate s).sel = s.sel := by unfold coincidenceUpdate; dsimp only; split <;> rfl
@[simp] theorem coincidenceUpdate_dirRow (s : State) : (coincidenceUpdate s).dirRow = s.dirRow := by unfold coincidenceUpdate; dsimp only; split <;> rfl
@[simp] theorem coincidenceUpdate_actRow (s : State) : (coincidenceUpdate s).actRow = s.actRow := by unfold coincidenceUpdate; dsimp only; split <;> rfl
@[simp] theorem coincidenceUpdate_haltWakeNeedsIe (s : State) : (coincidenceUpdate s).haltWakeNeedsIe = s.haltWakeNeedsIe := by unfold coincidenceUpdate; dsimp only; split <;> rfl
@[simp] theorem coincidenceUpdate_hostEvents (s : State) : (coincidenceUpdate s).hostEvents = s.hostEvents := by unfold coincidenceUpdate; dsimp only; split <;> rfl

/-! ## popped -/

@[simp] theorem popped_a (s : State) : (popped s).a = s.a := rfl
@[simp] theorem popped_f (s : State) : (popped s).f = s.f := rfl
@[simp] theorem popped_b (s : State) : (popped s).b = s.b := rfl
@[simp] theorem popped_c (s : State) : (popped s).c = s.c := rfl
@[simp] theorem popped_d (s : State) : (popped s).d = s.d := rfl
@[simp] theorem popped_e (s : State) : (popped s).e = s.e := rfl
@[simp] theorem popped_h (s : State) : (popped s).h = s.h := rfl
@[simp] theorem popped_l (s : State) : (popped s).l = s.l := rfl
@[simp] theorem popped_sp (s : State) : (popped s).sp = s.sp + 1 + 1 := rfl
@[simp] theorem popped_pc (s : State) : (popped s).pc = s.pc := rfl
@[simp] theorem popped_cpuMode (s : State) : (popped s).cpuMode = s.cpuMode := rfl
@[simp] theorem popped_ime (s : State) : (popped s).ime = s.ime := rfl
@[simp] theorem popped_eiPending (s : State) : (popped s).eiPending = s.eiPending := rfl
@[simp] theorem popped_cycles (s : State) : (popped s).cycles = s.cycles := rfl
@[simp] theorem popped_rom (s : State) : (popped s).rom = s.rom := rfl
@[simp] theorem popped_romSize (s : State) : (popped s).romSize = s.romSize := rfl
@[simp] theorem popped_boot (s : State) : (popped s).boot = s.boot := rfl
@[simp] theorem popped_vram (s : State) : (popped s).vram = s.vram := rfl
@[simp] theorem popped_eram (s : State) : (popped s).eram = s.eram := rfl
@[simp] theorem popped_wram (s : State) : (popped s).wram = s.wram := rfl
@[simp] theorem popped_oam (s : State) : (popped s).oam = s.oam := rfl
@[simp] theorem popped_hram (s : State) : (popped s).hram = s.hram := rfl
@[simp] theorem popped_romBank (s : State) : (popped s).romBank = s.romBank := rfl
@[simp] theorem popped_ramBank (s : State) : (popped s).ramBank = s.ramBank := rfl
@[simp] theorem popped_ramEnabled (s : State) : (popped s).ramEnabled = s.ramEnabled := rfl
@[simp] theorem popped_bankingMode (s : State) : (popped s).bankingMode = s.bankingMode := rfl
@[simp] theorem popped_cartBanked (s : State) : (popped s).cartBanked = s.cartBanked := rfl
@[simp] theorem popped_bootMapped (s : State) : (popped s).bootMapped = s.bootMapped := rfl
@[simp] theorem popped_dmaLast (s : State) : (popped s).dmaLast = s.dmaLast := rfl
@[simp] theorem popped_ifReg (s : State) : (popped s).ifReg = s.ifReg := rfl
@[simp] theorem popped_ieReg (s : State) : (popped s).ieReg = s.ieReg := rfl
@[simp] theorem popped_div (s : State) : (popped s).div = s.div := rfl
@[simp] theorem popped_divAcc (s : State) : (popped s).divAcc = s.divAcc := rfl
@[simp] theorem popped_tima (s : State) : (popped s).tima = s.tima := rfl
@[simp] theorem popped_tma (s : State) : (popped s).tma = s.tma := rfl
@[simp] theorem popped_tac (s : State) : (popped s).tac = s.tac := rfl
@[simp] theorem popped_timaAcc (s : State) : (popped s).timaAcc = s.timaAcc := rfl
@[simp] theorem popped_lcdc (s : State) : (popped s).lcdc = s.lcdc := rfl
@[simp] theorem popped_statEn (s : State) : (popped s).statEn = s.statEn := rfl
@[simp] theorem popped_ppuMode (s : State) : (popped s).ppuMode = s.ppuMode := rfl
@[simp] theorem popped_modeClock (s : State) : (popped s).modeClock = s.modeClock := rfl
@[simp] theorem popped_coincidence (s : State) : (popped s).coincidence = s.coincidence := rfl
@[simp] theorem popped_ly (s : State) : (popped s).ly = s.ly := rfl
@[simp] theorem popped_lyc (s : State) : (popped s).lyc = s.lyc := rfl
@[simp] theorem popped_scy (s : State) : (popped s).scy = s.scy := rfl
@[simp] theorem popped_scx (s : State) : (popped s).scx = s.scx := rfl
@[simp] theorem popped_bgp (s : State) : (popped s).bgp = s.bgp := rfl
@[simp] theorem popped_obp0 (s : State) : (popped s).obp0 = s.obp0 := rfl
@[simp] theorem popped_obp1 (s : State) : (popped s).obp1 = s.obp1 := rfl
@[simp] theorem popped_wy (s : State) : (popped s).wy = s.wy := rfl
@[simp] theorem popped_wx (s : State) : (popped s).wx = s.wx := rfl
@[simp] theorem popped_frame (s : State) : (popped s).frame = s.frame := rfl
@[simp] theorem popped_sel (s : State) : (popped s).sel = s.sel := rfl
@[simp] theorem popped_dirRow (s : State) : (popped s).dirRow = s.dirRow := rfl
@[simp] theorem popped_actRow (s : State) : (popped s).actRow = s.actRow := rfl
@[simp] theorem popped_haltWakeNeedsIe (s : State) : (popped s).haltWakeNeedsIe = s.haltWakeNeedsIe := rfl
@[simp] theorem popped_hostEvents (s : State) : (popped s).hostEvents = s.hostEvents := rfl

/-! ## advance -/

@[simp] theorem advance_a (len : Nat) (s : State) : (advance len s).a = s.a := rfl
@[simp] theorem advance_f (len : Nat) (s : State) : (advance len s).f = s.f := rfl
@[simp] theorem advance_b (len : Nat) (s : State) : (advance len s).b = s.b := rfl
@[simp] theorem advance_c (len : Nat) (s : State) : (advance len s).c = s.c := rfl
@[simp] theorem advance_d (len : Nat) (s : State) : (advance len s).d = s.d := rfl
@[simp] theorem advance_e (len : Nat) (s : State) : (advance len s).e = s.e := rfl
@[simp] theorem advance_h (len : Nat) (s : State) : (advance len s).h = s.h := rfl
@[simp] theorem advance_l (len : Nat) (s : State) : (advance len s).l = s.l := rfl
@[simp] theorem advance_sp (len : Nat) (s : State) : (advance len s).sp = s.sp := rfl
@[simp] theorem advance_pc (len : Nat) (s : State) : (advance len s).pc = s.pc + BitVec.ofNat 16 len := rfl
@[simp] theorem advance_cpuMode (len : Nat) (s : State) : (advance len s).cpuMode = s.cpuMode := rfl
@[simp] theorem advance_ime (len : Nat) (s : State) : (advance len s).ime = s.ime := rfl
@[simp] theorem advance_eiPending (len : Nat) (s : State) : (advance len s).eiPending = s.eiPending := rfl
@[simp] theorem advance_cycles (len : Nat) (s : State) : (advance len s).cycles = s.cycles := rfl
@[simp] theorem advance_rom (len : Nat) (s : State) : (advance len s).rom = s.rom := rfl
@[simp] theorem advance_romSize (len : Nat) (s : State) : (advance len s).romSize = s.romSize := rfl
@[simp] theorem advance_boot (len : Nat) (s : State) : (advance len s).boot = s.boot := rfl
@[simp] theorem advance_vram (len : Nat) (s : State) : (advance len s).vram = s.vram := rfl
@[simp] theorem advance_eram (len : Nat) (s : State) : (advance len s).eram = s.eram := rfl
@[simp] theorem advance_wram (len : Nat) (s : State) : (advance len s).wram = s.wram := rfl
@[simp] theorem advance_oam (len : Nat) (s : State) : (advance len s).oam = s.oam := rfl
@[simp] theorem advance_hram (len : Nat) (s : State) : (advance len s).hram = s.hram := rfl
@[simp] theorem advance_romBank (len : Nat) (s : State) : (advance len s).romBank = s.romBank := rfl
@[simp] theorem advance_ramBank (len : Nat) (s : State) : (advance len s).ramBank = s.ramBank := rfl
@[simp] theorem advance_ramEnabled (len : Nat) (s : State) : (advance len s).ramEnabled = s.ramEnabled := rfl
@[simp] theorem advance_bankingMode (len : Nat) (s : State) : (advance len s).bankingMode = s.bankingMode := rfl
@[simp] theorem advance_cartBanked (len : Nat) (s : State) : (advance len s).cartBanked = s.cartBanked := rfl
@[simp] theorem advance_bootMapped (len : Nat) (s : State) : (advance len s).bootMapped = s.bootMapped := rfl
@[simp] theorem advance_dmaLast (len : Nat) (s : State) : (advance len s).dmaLast = s.dmaLast := rfl
@[simp] theorem advance_ifReg (len : Nat) (s : State) : (advance len s).ifReg = s.ifReg := rfl
@[simp] theorem advance_ieReg (len : Nat) (s : State) : (advance len s).ieReg = s.ieReg := rfl
@[simp] theorem advance_div (len : Nat) (s : State) : (advance len s).div = s.div := rfl
@[simp] theorem advance_divAcc (len : Nat) (s : State) : (advance len s).divAcc = s.divAcc := rfl
@[simp] theorem advance_tima (len : Nat) (s : State) : (advance len s).tima = s.tima := rfl
@[simp] theorem advance_tma (len : Nat) (s : State) : (advance len s).tma = s.tma := rfl
@[simp] theorem advance_tac (len : Nat) (s : State) : (advance len s).tac = s.tac := rfl
@[simp] theorem advance_timaAcc (len : Nat) (s : State) : (advance len s).timaAcc = s.timaAcc := rfl
@[simp] theorem advance_lcdc (len : Nat) (s : State) : (advance len s).lcdc = s.lcdc := rfl
@[simp] theorem advance_statEn (len : Nat) (s : State) : (advance len s).statEn = s.statEn := rfl
@[simp] theorem advance_ppuMode (len : Nat) (s : State) : (advance len s).ppuMode = s.ppuMode := rfl
@[simp] theorem advance_modeClock (len : Nat) (s : State) : (advance len s).modeClock = s.modeClock := rfl
@[simp] theorem advance_coincidence (len : Nat) (s : State) : (advance len s).coincidence = s.coincidence := rfl
@[simp] theorem advance_ly (len : Nat) (s : State) : (advance len s).ly = s.ly := rfl
@[simp] theorem advance_lyc (len : Nat) (s : State) : (advance len s).lyc = s.lyc := rfl
@[simp] theorem advance_scy (len : Nat) (s : State) : (advance len s).scy = s.scy := rfl
@[simp] theorem advance_scx (len : Nat) (s : State) : (advance len s).scx = s.scx := rfl
@[simp] theorem advance_bgp (len : Nat) (s : State) : (advance len s).bgp = s.bgp := rfl
@[simp] theorem advance_obp0 (len : Nat) (s : State) : (advance len s).obp0 = s.obp0 := rfl
@[simp] theorem advance_obp1 (len : Nat) (s : State) : (advance len s).obp1 = s.obp1 := rfl
@[simp] theorem advance_wy (len : Nat) (s : State) : (advance len s).wy = s.wy := rfl
@[simp] theorem advance_wx (len : Nat) (s : State) : (advance len s).wx = s.wx := rfl
@[simp] theorem advance_frame (len : Nat) (s : State) : (advance len s).frame = s.frame := rfl
@[simp] theorem advance_sel (len : Nat) (s : State) : (advance len s).sel = s.sel := rfl
@[simp] theorem advance_dirRow (len : Nat) (s : State) : (advance len s).dirRow = s.dirRow := rfl
@[simp] theorem advance_actRow (len : Nat) (s : State) : (advance len s).actRow = s.actRow := rfl
@[simp] theorem advance_haltWakeNeedsIe (len : Nat) (s : State) : (advance len s).haltWakeNeedsIe = s.haltWakeNeedsIe := rfl
@[simp] theorem advance_hostEvents (len : Nat) (s : State) : (advance len s).hostEvents = s.hostEvents := rfl

/-! ## raiseDecodeError -/

@[simp] theorem raiseDecodeError_a (pc0 : Word) (byte : Byte) (s : State) : (raiseDecodeError pc0 byte s).a = s.a := rfl
@[simp] theorem raiseDecodeError_f (pc0 : Word) (byte : Byte) (s : State) : (raiseDecodeError pc0 byte s).f = s.f := rfl
@[simp] theorem raiseDecodeError_b (pc0 : Word) (byte : Byte) (s : State) : (raiseDecodeError pc0 byte s).b = s.b := rfl
@[simp] theorem raiseDecodeError_c (pc0 : Word) (byte : Byte) (s : State) : (raiseDecodeError pc0 byte s).c = s.c := rfl
@[simp] theorem raiseDecodeError_d (pc0 : Word) (byte : Byte) (s : State) : (raiseDecodeError pc0 byte s).d = s.d := rfl
@[simp] theorem raiseDecodeError_e (pc0 : Word) (byte : Byte) (s : State) : (raiseDecodeError pc0 byte s).e = s.e := rfl
@[simp] theorem raiseDecodeError_h (pc0 : Word) (byte : Byte) (s : State) : (raiseDecodeError pc0 byte s).h = s.h := rfl
@[simp] theorem raiseDecodeError_l (pc0 : Word) (byte : Byte) (s : State) : (raiseDecodeError pc0 byte s).l = s.l := rfl
@[simp] theorem raiseDecodeError_sp (pc0 : Word) (byte : Byte) (s : State) : (raiseDecodeError pc0 byte s).sp = s.sp := rfl
@[simp] theorem raiseDecodeError_pc (pc0 : Word) (byte : Byte) (s : State) : (raiseDecodeError pc0 byte s).pc = pc0 := rfl
@[simp] theorem raiseDecodeError_cpuMode (pc0 : Word) (byte : Byte) (s : State) : (raiseDecodeError pc0 byte s).cpuMode = .faulted .decodeError pc0 byte := rfl
@[simp] theorem raiseDecodeError_ime (pc0 : Word) (byte : Byte) (s : State) : (raiseDecodeError pc0 byte s).ime = s.ime := rfl
@[simp] theorem raiseDecodeError_eiPending (pc0 : Word) (byte : Byte) (s : State) : (raiseDecodeError pc0 byte s).eiPending = s.eiPending := rfl
@[simp] theorem raiseDecodeError_cycles (pc0 : Word) (byte : Byte) (s : State) : (raiseDecodeError pc0 byte s).cycles = s.cycles := rfl
@[simp] theorem raiseDecodeError_rom (pc0 : Word) (byte : Byte) (s : State) : (raiseDecodeError pc0 byte s).rom = s.rom := rfl
@[simp] theorem raiseDecodeError_romSize (pc0 : Word) (byte : Byte) (s : State) : (raiseDecodeError pc0 byte s).romSize = s.romSize := rfl
@[simp] theorem raiseDecodeError_boot (pc0 : Word) (byte : Byte) (s : State) : (raiseDecodeError pc0 byte s).boot = s.boot := rfl
@[simp] theorem raiseDecodeError_vram (pc0 : Word) (byte : Byte) (s : State) : (raiseDecodeError pc0 byte s).vram = s.vram := rfl
@[simp] theorem raiseDecodeError_eram (pc0 : Word) (byte : Byte) (s : State) : (raiseDecodeError pc0 byte s).eram = s.eram := rfl
@[simp] theorem raiseDecodeError_wram (pc0 : Word) (byte : Byte) (s : State) : (raiseDecodeError pc0 byte s).wram = s.wram := rfl
@[simp] theorem raiseDecodeError_oam (pc0 : Word) (byte : Byte) (s : State) : (raiseDecodeError pc0 byte s).oam = s.oam := rfl
@[simp] theorem raiseDecodeError_hram (pc0 : Word) (byte : Byte) (s : State) : (raiseDecodeError pc0 byte s).hram = s.hram := rfl
@[simp] theorem raiseDecodeError_romBank (pc0 : Word) (byte : Byte) (s : State) : (raiseDecodeError pc0 byte s).romBank = s.romBank := rfl
@[simp] theorem raiseDecodeError_ramBank (pc0 : Word) (byte : Byte) (s : State) : (raiseDecodeError pc0 byte s).ramBank = s.ramBank := rfl
@[simp] theorem raiseDecodeError_ramEnabled (pc0 : Word) (byte : Byte) (s : State) : (raiseDecodeError pc0 byte s).ramEnabled = s.ramEnabled := rfl
@[simp] theorem raiseDecodeError_bankingMode (pc0 : Word) (byte : Byte) (s : State) : (raiseDecodeError pc0 byte s).bankingMode = s.bankingMode := rfl
@[simp] theorem raiseDecodeError_cartBanked (pc0 : Word) (byte : Byte) (s : State) : (raiseDecodeError pc0 byte s).cartBanked = s.cartBanked := rfl
@[simp] theorem raiseDecodeError_bootMapped (pc0 : Word) (byte : Byte) (s : State) : (raiseDecodeError pc0 byte s).bootMapped = s.bootMapped := rfl
@[simp] theorem raiseDecodeError_dmaLast (pc0 : Word) (byte : Byte) (s : State) : (raiseDecodeError pc0 byte s).dmaLast = s.dmaLast := rfl
@[simp] theorem raiseDecodeError_ifReg (pc0 : Word) (byte : Byte) (s : State) : (raiseDecodeError pc0 byte s).ifReg = s.ifReg := rfl
@[simp] theorem raiseDecodeError_ieReg (pc0 : Word) (byte : Byte) (s : State) : (raiseDecodeError pc0 byte s).ieReg = s.ieReg := rfl
@[simp] theorem raiseDecodeError_div (pc0 : Word) (byte : Byte) (s : State) : (raiseDecodeError pc0 byte s).div = s.div := rfl
@[simp] theorem raiseDecodeError_divAcc (pc0 : Word) (byte : Byte) (s : State) : (raiseDecodeError pc0 byte s).divAcc = s.divAcc := rfl
@[simp] theorem raiseDecodeError_tima (pc0 : Word) (byte : Byte) (s : State) : (raiseDecodeError pc0 byte s).tima = s.tima := rfl
@[simp] theorem raiseDecodeError_tma (pc0 : Word) (byte : Byte) (s : State) : (raiseDecodeError pc0 byte s).tma = s.tma := rfl
@[simp] theorem raiseDecodeError_tac (pc0 : Word) (byte : Byte) (s : State) : (raiseDecodeError pc0 byte s).tac = s.tac := rfl
@[simp] theorem raiseDecodeError_timaAcc (pc0 : Word) (byte : Byte) (s : State) : (raiseDecodeError pc0 byte s).timaAcc = s.timaAcc := rfl
@[simp] theorem raiseDecodeError_lcdc (pc0 : Word) (byte : Byte) (s : State) : (raiseDecodeError pc0 byte s).lcdc = s.lcdc := rfl
@[simp] theorem raiseDecodeError_statEn (pc0 : Word) (byte : Byte) (s : State) : (raiseDecodeError pc0 byte s).statEn = s.statEn := rfl
@[simp] theorem raiseDecodeError_ppuMode (pc0 : Word) (byte : Byte) (s : State) : (raiseDecodeError pc0 byte s).ppuMode = s.ppuMode := rfl
@[simp] theorem raiseDecodeError_modeClock (pc0 : Word) (byte : Byte) (s : State) : (raiseDecodeError pc0 byte s).modeClock = s.modeClock := rfl
@[simp] theorem raiseDecodeError_coincidence (pc0 : Word) (byte : Byte) (s : State) : (raiseDecodeError pc0 byte s).coincidence = s.coincidence := rfl
@[simp] theorem raiseDecodeError_ly (pc0 : Word) (byte : Byte) (s : State) : (raiseDecodeError pc0 byte s).ly = s.ly := rfl
@[simp] theorem raiseDecodeError_lyc (pc0 : Word) (byte : Byte) (s : State) : (raiseDecodeError pc0 byte s).lyc = s.lyc := rfl
@[simp] theorem raiseDecodeError_scy (pc0 : Word) (byte : Byte) (s : State) : (raiseDecodeError pc0 byte s).scy = s.scy := rfl
@[simp] theorem raiseDecodeError_scx (pc0 : Word) (byte : Byte) (s : State) : (raiseDecodeError pc0 byte s).scx = s.scx := rfl
@[simp] theorem raiseDecodeError_bgp (pc0 : Word) (byte : Byte) (s : State) : (raiseDecodeError pc0 byte s).bgp = s.bgp := rfl
@[simp] theorem raiseDecodeError_obp0 (pc0 : Word) (byte : Byte) (s : State) : (raiseDecodeError pc0 byte s).obp0 = s.obp0 := rfl
@[simp] theorem raiseDecodeError_obp1 (pc0 : Word) (byte : Byte) (s : State) : (raiseDecodeError pc0 byte s).obp1 = s.obp1 := rfl
@[simp] theorem raiseDecodeError_wy (pc0 : Word) (byte : Byte) (s : State) : (raiseDecodeError pc0 byte s).wy = s.wy := rfl
@[simp] theorem raiseDecodeError_wx (pc0 : Word) (byte : Byte) (s : State) : (raiseDecodeError pc0 byte s).wx = s.wx := rfl
@[simp] theorem raiseDecodeError_frame (pc0 : Word) (byte : Byte) (s : State) : (raiseDecodeError pc0 byte s).frame = s.frame := rfl
@[simp] theorem raiseDecodeError_sel (pc0 : Word) (byte : Byte) (s : State) : (raiseDecodeError pc0 byte s).sel = s.sel := rfl
@[simp] theorem raiseDecodeError_dirRow (pc0 : Word) (byte : Byte) (s : State) : (raiseDecodeError pc0 byte s).dirRow = s.dirRow := rfl
@[simp] theorem raiseDecodeError_actRow (pc0 : Word) (byte : Byte) (s : State) : (raiseDecodeError pc0 byte s).actRow = s.actRow := rfl
@[simp] theorem raiseDecodeError_haltWakeNeedsIe (pc0 : Word) (byte : Byte) (s : State) : (raiseDecodeError pc0 byte s).haltWakeNeedsIe = s.haltWakeNeedsIe := rfl
@[simp] theorem raiseDecodeError_hostEvents (pc0 : Word) (byte : Byte) (s : State) : (raiseDecodeError pc0 byte s).hostEvents = s.hostEvents := rfl

/-! ## returnFromInterrupt -/

@[simp] theorem returnFromInterrupt_a (s : State) : (returnFromInterrupt s).a = s.a := rfl
@[simp] theorem returnFromInterrupt_f (s : State) : (returnFromInterrupt s).f = s.f := rfl
@[simp] theorem returnFromInterrupt_b (s : State) : (returnFromInterrupt s).b = s.b := rfl
@[simp] theorem returnFromInterrupt_c (s : State) : (returnFromInterrupt s).c = s.c := rfl
@[simp] theorem returnFromInterrupt_d (s : State) : (returnFromInterrupt s).d = s.d := rfl
@[simp] theorem returnFromInterrupt_e (s : State) : (returnFromInterrupt s).e = s.e := rfl
@[simp] theorem returnFromInterrupt_h (s : State) : (returnFromInterrupt s).h = s.h := rfl
@[simp] theorem returnFromInterrupt_l (s : State) : (returnFromInterrupt s).l = s.l := rfl
@[simp] theorem returnFromInterrupt_sp (s : State) : (returnFromInterrupt s).sp = s.sp + 1 + 1 := rfl
@[simp] theorem returnFromInterrupt_pc (s : State) : (returnFromInterrupt s).pc = popValue s := rfl
@[simp] theorem returnFromInterrupt_cpuMode (s : State) : (returnFromInterrupt s).cpuMode = s.cpuMode := rfl
@[simp] theorem returnFromInterrupt_ime (s : State) : (returnFromInterrupt s).ime = true := rfl
@[simp] theorem returnFromInterrupt_eiPending (s : State) : (returnFromInterrupt s).eiPending = false := rfl
@[simp] theorem returnFromInterrupt_cycles (s : State) : (returnFromInterrupt s).cycles = s.cycles := rfl
@[simp] theorem returnFromInterrupt_rom (s : State) : (returnFromInterrupt s).rom = s.rom := rfl
@[simp] theorem returnFromInterrupt_romSize (s : State) : (returnFromInterrupt s).romSize = s.romSize := rfl
@[simp] theorem returnFromInterrupt_boot (s : State) : (returnFromInterrupt s).boot = s.boot := rfl
@[simp] theorem returnFromInterrupt_vram (s : State) : (returnFromInterrupt s).vram = s.vram := rfl
@[simp] theorem returnFromInterrupt_eram (s : State) : (returnFromInterrupt s).eram = s.eram := rfl
@[simp] theorem returnFromInterrupt_wram (s : State) : (returnFromInterrupt s).wram = s.wram := rfl
@[simp] theorem returnFromInterrupt_oam (s : State) : (returnFromInterrupt s).oam = s.oam := rfl
@[simp] theorem returnFromInterrupt_hram (s : State) : (returnFromInterrupt s).hram = s.hram := rfl
@[simp] theorem returnFromInterrupt_romBank (s : State) : (returnFromInterrupt s).romBank = s.romBank := rfl
@[simp] theorem returnFromInterrupt_ramBank (s : State) : (returnFromInterrupt s).ramBank = s.ramBank := rfl
@[simp] theorem returnFromInterrupt_ramEnabled (s : State) : (returnFromInterrupt s).ramEnabled = s.ramEnabled := rfl
@[simp] theorem returnFromInterrupt_bankingMode (s : State) : (returnFromInterrupt s).bankingMode = s.bankingMode := rfl
@[simp] theorem returnFromInterrupt_cartBanked (s : State) : (returnFromInterrupt s).cartBanked = s.cartBanked := rfl
@[simp] theorem returnFromInterrupt_bootMapped (s : State) : (returnFromInterrupt s).bootMapped = s.bootMapped := rfl
@[simp] theorem returnFromInterrupt_dmaLast (s : State) : (returnFromInterrupt s).dmaLast = s.dmaLast := rfl
@[simp] theorem returnFromInterrupt_ifReg (s : State) : (returnFromInterrupt s).ifReg = s.ifReg := rfl
@[simp] theorem returnFromInterrupt_ieReg (s : State) : (returnFromInterrupt s).ieReg = s.ieReg := rfl
@[simp] theorem returnFromInterrupt_div (s : State) : (returnFromInterrupt s).div = s.div := rfl
@[simp] theorem returnFromInterrupt_divAcc (s : State) : (returnFromInterrupt s).divAcc = s.divAcc := rfl
@[simp] theorem returnFromInterrupt_tima (s : State) : (returnFromInterrupt s).tima = s.tima := rfl
@[simp] theorem returnFromInterrupt_tma (s : State) : (returnFromInterrupt s).tma = s.tma := rfl
@[simp] theorem returnFromInterrupt_tac (s : State) : (returnFromInterrupt s).tac = s.tac := rfl
@[simp] theorem returnFromInterrupt_timaAcc (s : State) : (returnFromInterrupt s).timaAcc = s.timaAcc := rfl
@[simp] theorem returnFromInterrupt_lcdc (s : State) : (returnFromInterrupt s).lcdc = s.lcdc := rfl
@[simp] theorem returnFromInterrupt_statEn (s : State) : (returnFromInterrupt s).statEn = s.statEn := rfl
@[simp] theorem returnFromInterrupt_ppuMode (s : State) : (returnFromInterrupt s).ppuMode = s.ppuMode := rfl
@[simp] theorem returnFromInterrupt_modeClock (s : State) : (returnFromInterrupt s).modeClock = s.modeClock := rfl
@[simp] theorem returnFromInterrupt_coincidence (s : State) : (returnFromInterrupt s).coincidence = s.coincidence := rfl
@[simp] theorem returnFromInterrupt_ly (s : State) : (returnFromInterrupt s).ly = s.ly := rfl
@[simp] theorem returnFromInterrupt_lyc (s : State) : (returnFromInterrupt s).lyc = s.lyc := rfl
@[simp] theorem returnFromInterrupt_scy (s : State) : (returnFromInterrupt s).scy = s.scy := rfl
@[simp] theorem returnFromInterrupt_scx (s : State) : (returnFromInterrupt s).scx = s.scx := rfl
@[simp] theorem returnFromInterrupt_bgp (s : State) : (returnFromInterrupt s).bgp = s.bgp := rfl
@[simp] theorem returnFromInterrupt_obp0 (s : State) : (returnFromInterrupt s).obp0 = s.obp0 := rfl
@[simp] theorem returnFromInterrupt_obp1 (s : State) : (returnFromInterrupt s).obp1 = s.obp1 := rfl
@[simp] theorem returnFromInterrupt_wy (s : State) : (returnFromInterrupt s).wy = s.wy := rfl
@[simp] theorem returnFromInterrupt_wx (s : State) : (returnFromInterrupt s).wx = s.wx := rfl
@[simp] theorem returnFromInterrupt_frame (s : State) : (returnFromInterrupt s).frame = s.frame := rfl
@[simp] theorem returnFromInterrupt_sel (s : State) : (returnFromInterrupt s).sel = s.sel := rfl
@[simp] theorem returnFromInterrupt_dirRow (s : State) : (returnFromInterrupt s).dirRow = s.dirRow := rfl
@[simp] theorem returnFromInterrupt_actRow (s : State) : (returnFromInterrupt s).actRow = s.actRow := rfl
@[simp] theorem returnFromInterrupt_haltWakeNeedsIe (s : State) : (returnFromInterrupt s).haltWakeNeedsIe = s.haltWakeNeedsIe := rfl
@[simp] theorem returnFromInterrupt_hostEvents (s : State) : (returnFromInterrupt s).hostEvents = s.hostEvents := rfl

/-! ## setRow -/

@[simp] theorem setRow_a (s : State) (row : KeyRow) (v : BitVec 4) : (s.setRow row v).a = s.a := by cases row <;> rfl
@[simp] theorem setRow_f (s : State) (row : KeyRow) (v : BitVec 4) : (s.setRow row v).f = s.f := by cases row <;> rfl
@[simp] theorem setRow_b (s : State) (row : KeyRow) (v : BitVec 4) : (s.setRow row v).b = s.b := by cases row <;> rfl
@[simp] theorem setRow_c (s : State) (row : KeyRow) (v : BitVec 4) : (s.setRow row v).c = s.c := by cases row <;> rfl
@[simp] theorem setRow_d (s : State) (row : KeyRow) (v : BitVec 4) : (s.setRow row v).d = s.d := by cases row <;> rfl
@[simp] theorem setRow_e (s : State) (row : KeyRow) (v : BitVec 4) : (s.setRow row v).e = s.e := by cases row <;> rfl
@[simp] theorem setRow_h (s : State) (row : KeyRow) (v : BitVec 4) : (s.setRow row v).h = s.h := by cases row <;> rfl
@[simp] theorem setRow_l (s : State) (row : KeyRow) (v : BitVec 4) : (s.setRow row v).l = s.l := by cases row <;> rfl
@[simp] theorem setRow_sp (s : State) (row : KeyRow) (v : BitVec 4) : (s.setRow row v).sp = s.sp := by cases row <;> rfl
@[simp] theorem setRow_pc (s : State) (row : KeyRow) (v : BitVec 4) : (s.setRow row v).pc = s.pc := by cases row <;> rfl
@[simp] theorem setRow_cpuMode (s : State) (row : KeyRow) (v : BitVec 4) : (s.setRow row v).cpuMode = s.cpuMode := by cases row <;> rfl
@[simp] theorem setRow_ime (s : State) (row : KeyRow) (v : BitVec 4) : (s.setRow row v).ime = s.ime := by cases row <;> rfl
@[simp] theorem setRow_eiPending (s : State) (row : KeyRow) (v : BitVec 4) : (s.setRow row v).eiPending = s.eiPending := by cases row <;> rfl
@[simp] theorem setRow_cycles (s : State) (row : KeyRow) (v : BitVec 4) : (s.setRow row v).cycles = s.cycles := by cases row <;> rfl
@[simp] theorem setRow_rom (s : State) (row : KeyRow) (v : BitVec 4) : (s.setRow row v).rom = s.rom := by cases row <;> rfl
@[simp] theorem setRow_romSize (s : State) (row : KeyRow) (v : BitVec 4) : (s.setRow row v).romSize = s.romSize := by cases row <;> rfl
@[simp] theorem setRow_boot (s : State) (row : KeyRow) (v : BitVec 4) : (s.setRow row v).boot = s.boot := by cases row <;> rfl
@[simp] theorem setRow_vram (s : State) (row : KeyRow) (v : BitVec 4) : (s.setRow row v).vram = s.vram := by cases row <;> rfl
@[simp] theorem setRow_eram (s : State) (row : KeyRow) (v : BitVec 4) : (s.setRow row v).eram = s.eram := by cases row <;> rfl
@[simp] theorem setRow_wram (s : State) (row : KeyRow) (v : BitVec 4) : (s.setRow row v).wram = s.wram := by cases row <;> rfl
@[simp] theorem setRow_oam (s : State) (row : KeyRow) (v : BitVec 4) : (s.setRow row v).oam = s.oam := by cases row <;> rfl
@[simp] theorem setRow_hram (s : State) (row : KeyRow) (v : BitVec 4) : (s.setRow row v).hram = s.hram := by cases row <;> rfl
@[simp] theorem setRow_romBank (s : State) (row : KeyRow) (v : BitVec 4) : (s.setRow row v).romBank = s.romBank := by cases row <;> rfl
@[simp] theorem setRow_ramBank (s : State) (row : KeyRow) (v : BitVec 4) : (s.setRow row v).ramBank = s.ramBank := by cases row <;> rfl
@[simp] theorem setRow_ramEnabled (s : State) (row : KeyRow) (v : BitVec 4) : (s.setRow row v).ramEnabled = s.ramEnabled := by cases row <;> rfl
@[simp] theorem setRow_bankingMode (s : State) (row : KeyRow) (v : BitVec 4) : (s.setRow row v).bankingMode = s.bankingMode := by cases row <;> rfl
@[simp] theorem setRow_cartBanked (s : State) (row : KeyRow) (v : BitVec 4) : (s.setRow row v).cartBanked = s.cartBanked := by cases row <;> rfl
@[simp] theorem setRow_bootMapped (s : State) (row : KeyRow) (v : BitVec 4) : (s.setRow row v).bootMapped = s.bootMapped := by cases row <;> rfl
@[simp] theorem setRow_dmaLast (s : State) (row : KeyRow) (v : BitVec 4) : (s.setRow row v).dmaLast = s.dmaLast := by cases row <;> rfl
@[simp] theorem setRow_ifReg (s : State) (row : KeyRow) (v : BitVec 4) : (s.setRow row v).ifReg = s.ifReg := by cases row <;> rfl
@[simp] theorem setRow_ieReg (s : State) (row : KeyRow) (v : BitVec 4) : (s.setRow row v).ieReg = s.ieReg := by cases row <;> rfl
@[simp] theorem setRow_div (s : State) (row : KeyRow) (v : BitVec 4) : (s.setRow row v).div = s.div := by cases row <;> rfl
@[simp] theorem setRow_divAcc (s : State) (row : KeyRow) (v : BitVec 4) : (s.setRow row v).divAcc = s.divAcc := by cases row <;> rfl
@[simp] theorem setRow_tima (s : State) (row : KeyRow) (v : BitVec 4) : (s.setRow row v).tima = s.tima := by cases row <;> rfl
@[simp] theorem setRow_tma (s : State) (row : KeyRow) (v : BitVec 4) : (s.setRow row v).tma = s.tma := by cases row <;> rfl
@[simp] theorem setRow_tac (s : State) (row : KeyRow) (v : BitVec 4) : (s.setRow row v).tac = s.tac := by cases row <;> rfl
@[simp] theorem setRow_timaAcc (s : State) (row : KeyRow) (v : BitVec 4) : (s.setRow row v).timaAcc = s.timaAcc := by cases row <;> rfl
@[simp] theorem setRow_lcdc (s : State) (row : KeyRow) (v : BitVec 4) : (s.setRow row v).lcdc = s.lcdc := by cases row <;> rfl
@[simp] theorem setRow_statEn (s : State) (row : KeyRow) (v : BitVec 4) : (s.setRow row v).statEn = s.statEn := by cases row <;> rfl
@[simp] theorem setRow_ppuMode (s : State) (row : KeyRow) (v : BitVec 4) : (s.setRow row v).ppuMode = s.ppuMode := by cases row <;> rfl
@[simp] theorem setRow_modeClock (s : State) (row : KeyRow) (v : BitVec 4) : (s.setRow row v).modeClock = s.modeClock := by cases row <;> rfl
@[simp] theorem setRow_coincidence (s : State) (row : KeyRow) (v : BitVec 4) : (s.setRow row v).coincidence = s.coincidence := by cases row <;> rfl
@[simp] theorem setRow_ly (s : State) (row : KeyRow) (v : BitVec 4) : (s.setRow row v).ly = s.ly := by cases row <;> rfl
@[simp] theorem setRow_lyc (s : State) (row : KeyRow) (v : BitVec 4) : (s.setRow row v).lyc = s.lyc := by cases row <;> rfl
@[simp] theorem setRow_scy (s : State) (row : KeyRow) (v : BitVec 4) : (s.setRow row v).scy = s.scy := by cases row <;> rfl
@[simp] theorem setRow_scx (s : State) (row : KeyRow) (v : BitVec 4) : (s.setRow row v).scx = s.scx := by cases row <;> rfl
@[simp] theorem setRow_bgp (s : State) (row : KeyRow) (v : BitVec 4) : (s.setRow row v).bgp = s.bgp := by cases row <;> rfl
@[simp] theorem setRow_obp0 (s : State) (row : KeyRow) (v : BitVec 4) : (s.setRow row v).obp0 = s.obp0 := by cases row <;> rfl
@[simp] theorem setRow_obp1 (s : State) (row : KeyRow) (v : BitVec 4) : (s.setRow row v).obp1 = s.obp1 := by cases row <;> rfl
@[simp] theorem setRow_wy (s : State) (row : KeyRow) (v : BitVec 4) : (s.setRow row v).wy = s.wy := by cases row <;> rfl
@[simp] theorem setRow_wx (s : State) (row : KeyRow) (v : BitVec 4) : (s.setRow row v).wx = s.wx := by cases row <;> rfl
@[simp] theorem setRow_frame (s : State) (row : KeyRow) (v : BitVec 4) : (s.setRow row v).frame = s.frame := by cases row <;> rfl
@[simp] theorem setRow_sel (s : State) (row : KeyRow) (v : BitVec 4) : (s.setRow row v).sel = s.sel := by cases row <;> rfl
@[simp] theorem setRow_haltWakeNeedsIe (s : State) (row : KeyRow) (v : BitVec 4) : (s.setRow row v).haltWakeNeedsIe = s.haltWakeNeedsIe := by cases row <;> rfl
@[simp] theorem setRow_hostEvents (s : State) (row : KeyRow) (v : BitVec 4) : (s.setRow row v).hostEvents = s.hostEvents := by cases row <;> rfl

/-! ## wakeFromStop -/

@[simp] theorem wakeFromStop_a (s : State) : (wakeFromStop s).a = s.a := by unfold wakeFromStop; split <;> rfl
@[simp] theorem wakeFromStop_f (s : State) : (wakeFromStop s).f = s.f := by unfold wakeFromStop; split <;> rfl
@[simp] theorem wakeFromStop_b (s : State) : (wakeFromStop s).b = s.b := by unfold wakeFromStop; split <;> rfl
@[simp] theorem wakeFromStop_c (s : State) : (wakeFromStop s).c = s.c := by unfold wakeFromStop; split <;> rfl
@[simp] theorem wakeFromStop_d (s : State) : (wakeFromStop s).d = s.d := by unfold wakeFromStop; split <;> rfl
@[simp] theorem wakeFromStop_e (s : State) : (wakeFromStop s).e = s.e := by unfold wakeFromStop; split <;> rfl
@[simp] theorem wakeFromStop_h (s : State) : (wakeFromStop s).h = s.h := by unfold wakeFromStop; split <;> rfl
@[simp] theorem wakeFromStop_l (s : State) : (wakeFromStop s).l = s.l := by unfold wakeFromStop; split <;> rfl
@[simp] theorem wakeFromStop_sp (s : State) : (wakeFromStop s).sp = s.sp := by unfold wakeFromStop; split <;> rfl
@[simp] theorem wakeFromStop_pc (s : State) : (wakeFromStop s).pc = s.pc := by unfold wakeFromStop; split <;> rfl
@[simp] theorem wakeFromStop_ime (s : State) : (wakeFromStop s).ime = s.ime := by unfold wakeFromStop; split <;> rfl
@[simp] theorem wakeFromStop_eiPending (s : State) : (wakeFromStop s).eiPending = s.eiPending := by unfold wakeFromStop; split <;> rfl
@[simp] theorem wakeFromStop_cycles (s : State) : (wakeFromStop s).cycles = s.cycles := by unfold wakeFromStop; split <;> rfl
@[simp] theorem wakeFromStop_rom (s : State) : (wakeFromStop s).rom = s.rom := by unfold wakeFromStop; split <;> rfl
@[simp] theorem wakeFromStop_romSize (s : State) : (wakeFromStop s).romSize = s.romSize := by unfold wakeFromStop; split <;> rfl
@[simp] theorem wakeFromStop_boot (s : State) : (wakeFromStop s).boot = s.boot := by unfold wakeFromStop; split <;> rfl
@[simp] theorem wakeFromStop_vram (s : State) : (wakeFromStop s).vram = s.vram := by unfold wakeFromStop; split <;> rfl
@[simp] theorem wakeFromStop_eram (s : State) : (wakeFromStop s).eram = s.eram := by unfold wakeFromStop; split <;> rfl
@[simp] theorem wakeFromStop_wram (s : State) : (wakeFromStop s).wram = s.wram := by unfold wakeFromStop; split <;> rfl
@[simp] theorem wakeFromStop_oam (s : State) : (wakeFromStop s).oam = s.oam := by unfold wakeFromStop; split <;> rfl
@[simp] theorem wakeFromStop_hram (s : State) : (wakeFromStop s).hram = s.hram := by unfold wakeFromStop; split <;> rfl
@[simp] theorem wakeFromStop_romBank (s : State) : (wakeFromStop s).romBank = s.romBank := by unfold wakeFromStop; split <;> rfl
@[simp] theorem wakeFromStop_ramBank (s : State) : (wakeFromStop s).ramBank = s.ramBank := by unfold wakeFromStop; split <;> rfl
@[simp] theorem wakeFromStop_ramEnabled (s : State) : (wakeFromStop s).ramEnabled = s.ramEnabled := by unfold wakeFromStop; split <;> rfl
@[simp] theorem wakeFromStop_bankingMode (s : State) : (wakeFromStop s).bankingMode = s.bankingMode := by unfold wakeFromStop; split <;> rfl
@[simp] theorem wakeFromStop_cartBanked (s : State) : (wakeFromStop s).cartBanked = s.cartBanked := by unfold wakeFromStop; split <;> rfl
@[simp] theorem wakeFromStop_bootMapped (s : State) : (wakeFromStop s).bootMapped = s.bootMapped := by unfold wakeFromStop; split <;> rfl
@[simp] theorem wakeFromStop_dmaLast (s : State) : (wakeFromStop s).dmaLast = s.dmaLast := by unfold wakeFromStop; split <;> rfl
@[simp] theorem wakeFromStop_ifReg (s : State) : (wakeFromStop s).ifReg = s.ifReg := by unfold wakeFromStop; split <;> rfl
@[simp] theorem wakeFromStop_ieReg (s : State) : (wakeFromStop s).ieReg = s.ieReg := by unfold wakeFromStop; split <;> rfl
@[simp] theorem wakeFromStop_div (s : State) : (wakeFromStop s).div = s.div := by unfold wakeFromStop; split <;> rfl
@[simp] theorem wakeFromStop_divAcc (s : State) : (wakeFromStop s).divAcc = s.divAcc := by unfold wakeFromStop; split <;> rfl
@[simp] theorem wakeFromStop_tima (s : State) : (wakeFromStop s).tima = s.tima := by unfold wakeFromStop; split <;> rfl
@[simp] theorem wakeFromStop_tma (s : State) : (wakeFromStop s).tma = s.tma := by unfold wakeFromStop; split <;> rfl
@[simp] theorem wakeFromStop_tac (s : State) : (wakeFromStop s).tac = s.tac := by unfold wakeFromStop; split <;> rfl
@[simp] theorem wakeFromStop_timaAcc (s : State) : (wakeFromStop s).timaAcc = s.timaAcc := by unfold wakeFromStop; split <;> rfl
@[simp] theorem wakeFromStop_lcdc (s : State) : (wakeFromStop s).lcdc = s.lcdc := by unfold wakeFromStop; split <;> rfl
@[simp] theorem wakeFromStop_statEn (s : State) : (wakeFromStop s).statEn = s.statEn := by unfold wakeFromStop; split <;> rfl
@[simp] theorem wakeFromStop_ppuMode (s : State) : (wakeFromStop s).ppuMode = s.ppuMode := by unfold wakeFromStop; split <;> rfl
@[simp] theorem wakeFromStop_modeClock (s : State) : (wakeFromStop s).modeClock = s.modeClock := by unfold wakeFromStop; split <;> rfl
@[simp] theorem wakeFromStop_coincidence (s : State) : (wakeFromStop s).coincidence = s.coincidence := by unfold wakeFromStop; split <;> rfl
@[simp] theorem wakeFromStop_ly (s : State) : (wakeFromStop s).ly = s.ly := by unfold wakeFromStop; split <;> rfl
@[simp] theorem wakeFromStop_lyc (s : State) : (wakeFromStop s).lyc = s.lyc := by unfold wakeFromStop; split <;> rfl
@[simp] theorem wakeFromStop_scy (s : State) : (wakeFromStop s).scy = s.scy := by unfold wakeFromStop; split <;> rfl
@[simp] theorem wakeFromStop_scx (s : State) : (wakeFromStop s).scx = s.scx := by unfold wakeFromStop; split <;> rfl
@[simp] theorem wakeFromStop_bgp (s : State) : (wakeFromStop s).bgp = s.bgp := by unfold wakeFromStop; split <;> rfl
@[simp] theorem wakeFromStop_obp0 (s : State) : (wakeFromStop s).obp0 = s.obp0 := by unfold wakeFromStop; split <;> rfl
@[simp] theorem wakeFromStop_obp1 (s : State) : (wakeFromStop s).obp1 = s.obp1 := by unfold wakeFromStop; split <;> rfl
@[simp] theorem wakeFromStop_wy (s : State) : (wakeFromStop s).wy = s.wy := by unfold wakeFromStop; split <;> rfl
@[simp] theorem wakeFromStop_wx (s : State) : (wakeFromStop s).wx = s.wx := by unfold wakeFromStop; split <;> rfl
@[simp] theorem wakeFromStop_frame (s : State) : (wakeFromStop s).frame = s.frame := by unfold wakeFromStop; split <;> rfl
@[simp] theorem wakeFromStop_sel (s : State) : (wakeFromStop s).sel = s.sel := by unfold wakeFromStop; split <;> rfl
@[simp] theorem wakeFromStop_dirRow (s : State) : (wakeFromStop s).dirRow = s.dirRow := by unfold wakeFromStop; split <;> rfl
@[simp] theorem wakeFromStop_actRow (s : State) : (wakeFromStop s).actRow = s.actRow := by unfold wakeFromStop; split <;> rfl
@[simp] theorem wakeFromStop_haltWakeNeedsIe (s : State) : (wakeFromStop s).haltWakeNeedsIe = s.haltWakeNeedsIe := by unfold wakeFromStop; split <;> rfl
@[simp] theorem wakeFromStop_hostEvents (s : State) : (wakeFromStop s).hostEvents = s.hostEvents := by unfold wakeFromStop; split <;> rfl

/-! ## renderLine -/

@[simp] theorem renderLine_a (ly : Nat) (s : State) : (renderLine ly s).a = s.a := rfl
@[simp] theorem renderLine_f (ly : Nat) (s : State) : (renderLine ly s).f = s.f := rfl
@[simp] theorem renderLine_b (ly : Nat) (s : State) : (renderLine ly s).b = s.b := rfl
@[simp] theorem renderLine_c (ly : Nat) (s : State) : (renderLine ly s).c = s.c := rfl
@[simp] theorem renderLine_d (ly : Nat) (s : State) : (renderLine ly s).d = s.d := rfl
@[simp] theorem renderLine_e (ly : Nat) (s : State) : (renderLine ly s).e = s.e := rfl
@[simp] theorem renderLine_h (ly : Nat) (s : State) : (renderLine ly s).h = s.h := rfl
@[simp] theorem renderLine_l (ly : Nat) (s : State) : (renderLine ly s).l = s.l := rfl
@[simp] theorem renderLine_sp (ly : Nat) (s : State) : (renderLine ly s).sp = s.sp := rfl
@[simp] theorem renderLine_pc (ly : Nat) (s : State) : (renderLine ly s).pc = s.pc := rfl
@[simp] theorem renderLine_cpuMode (ly : Nat) (s : State) : (renderLine ly s).cpuMode = s.cpuMode := rfl
@[simp] theorem renderLine_ime (ly : Nat) (s : State) : (renderLine ly s).ime = s.ime := rfl
@[simp] theorem renderLine_eiPending (ly : Nat) (s : State) : (renderLine ly s).eiPending = s.eiPending := rfl
@[simp] theorem renderLine_cycles (ly : Nat) (s : State) : (renderLine ly s).cycles = s.cycles := rfl
@[simp] theorem renderLine_rom (ly : Nat) (s : State) : (renderLine ly s).rom = s.rom := rfl
@[simp] theorem renderLine_romSize (ly : Nat) (s : State) : (renderLine ly s).romSize = s.romSize := rfl
@[simp] theorem renderLine_boot (ly : Nat) (s : State) : (renderLine ly s).boot = s.boot := rfl
@[simp] theorem renderLine_vram (ly : Nat) (s : State) : (renderLine ly s).vram = s.vram := rfl
@[simp] theorem renderLine_eram (ly : Nat) (s : State) : (renderLine ly s).eram = s.eram := rfl
@[simp] theorem renderLine_wram (ly : Nat) (s : State) : (renderLine ly s).wram = s.wram := rfl
@[simp] theorem renderLine_oam (ly : Nat) (s : State) : (renderLine ly s).oam = s.oam := rfl
@[simp] theorem renderLine_hram (ly : Nat) (s : State) : (renderLine ly s).hram = s.hram := rfl
@[simp] theorem renderLine_romBank (ly : Nat) (s : State) : (renderLine ly s).romBank = s.romBank := rfl
@[simp] theorem renderLine_ramBank (ly : Nat) (s : State) : (renderLine ly s).ramBank = s.ramBank := rfl
@[simp] theorem renderLine_ramEnabled (ly : Nat) (s : State) : (renderLine ly s).ramEnabled = s.ramEnabled := rfl
@[simp] theorem renderLine_bankingMode (ly : Nat) (s : State) : (renderLine ly s).bankingMode = s.bankingMode := rfl
@[simp] theorem renderLine_cartBanked (ly : Nat) (s : State) : (renderLine ly s).cartBanked = s.cartBanked := rfl
@[simp] theorem renderLine_bootMapped (ly : Nat) (s : State) : (renderLine ly s).bootMapped = s.bootMapped := rfl
@[simp] theorem renderLine_dmaLast (ly : Nat) (s : State) : (renderLine ly s).dmaLast = s.dmaLast := rfl
@[simp] theorem renderLine_ifReg (ly : Nat) (s : State) : (renderLine ly s).ifReg = s.ifReg := rfl
@[simp] theorem renderLine_ieReg (ly : Nat) (s : State) : (renderLine ly s).ieReg = s.ieReg := rfl
@[simp] theorem renderLine_div (ly : Nat) (s : State) : (renderLine ly s).div = s.div := rfl
@[simp] theorem renderLine_divAcc (ly : Nat) (s : State) : (renderLine ly s).divAcc = s.divAcc := rfl
@[simp] theorem renderLine_tima (ly : Nat) (s : State) : (renderLine ly s).tima = s.tima := rfl
@[simp] theorem renderLine_tma (ly : Nat) (s : State) : (renderLine ly s).tma = s.tma := rfl
@[simp] theorem renderLine_tac (ly : Nat) (s : State) : (renderLine ly s).tac = s.tac := rfl
@[simp] theorem renderLine_timaAcc (ly : Nat) (s : State) : (renderLine ly s).timaAcc = s.timaAcc := rfl
@[simp] theorem renderLine_lcdc (ly : Nat) (s : State) : (renderLine ly s).lcdc = s.lcdc := rfl
@[simp] theorem renderLine_statEn (ly : Nat) (s : State) : (renderLine ly s).statEn = s.statEn := rfl
@[simp] theorem renderLine_ppuMode (ly : Nat) (s : State) : (renderLine ly s).ppuMode = s.ppuMode := rfl
@[simp] theorem renderLine_modeClock (ly : Nat) (s : State) : (renderLine ly s).modeClock = s.modeClock := rfl
@[simp] theorem renderLine_coincidence (ly : Nat) (s : State) : (renderLine ly s).coincidence = s.coincidence := rfl
@[simp] theorem renderLine_ly (ly : Nat) (s : State) : (renderLine ly s).ly = s.ly := rfl
@[simp] theorem renderLine_lyc (ly : Nat) (s : State) : (renderLine ly s).lyc = s.lyc := rfl
@[simp] theorem renderLine_scy (ly : Nat) (s : State) : (renderLine ly s).scy = s.scy := rfl
@[simp] theorem renderLine_scx (ly : Nat) (s : State) : (renderLine ly s).scx = s.scx := rfl
@[simp] theorem renderLine_bgp (ly : Nat) (s : State) : (renderLine ly s).bgp = s.bgp := rfl
@[simp] theorem renderLine_obp0 (ly : Nat) (s : State) : (renderLine ly s).obp0 = s.obp0 := rfl
@[simp] theorem renderLine_obp1 (ly : Nat) (s : State) : (renderLine ly s).obp1 = s.obp1 := rfl
@[simp] theorem renderLine_wy (ly : Nat) (s : State) : (renderLine ly s).wy = s.wy := rfl
@[simp] theorem renderLine_wx (ly : Nat) (s : State) : (renderLine ly s).wx = s.wx := rfl
@[simp] theorem renderLine_frame (ly : Nat) (s : State) : (renderLine ly s).frame = s.frame.setIfInBounds ly (lineShades s ly) := rfl
@[simp] theorem renderLine_sel (ly : Nat) (s : State) : (renderLine ly s).sel = s.sel := rfl
@[simp] theorem renderLine_dirRow (ly : Nat) (s : State) : (renderLine ly s).dirRow = s.dirRow := rfl
@[simp] theorem renderLine_actRow (ly : Nat) (s : State) : (renderLine ly s).actRow = s.actRow := rfl
@[simp] theorem renderLine_haltWakeNeedsIe (ly : Nat) (s : State) : (renderLine ly s).haltWakeNeedsIe = s.haltWakeNeedsIe := rfl
@[simp] theorem renderLine_hostEvents (ly : Nat) (s : State) : (renderLine ly s).hostEvents = s.hostEvents := rfl

/-! ## divTick -/

@[simp] theorem divTick_a (cyc : Nat) (s : State) : (divTick cyc s).a = s.a := rfl
@[simp] theorem divTick_f (cyc : Nat) (s : State) : (divTick cyc s).f = s.f := rfl
@[simp] theorem divTick_b (cyc : Nat) (s : State) : (divTick cyc s).b = s.b := rfl
@[simp] theorem divTick_c (cyc : Nat) (s : State) : (divTick cyc s).c = s.c := rfl
@[simp] theorem divTick_d (cyc : Nat) (s : State) : (divTick cyc s).d = s.d := rfl
@[simp] theorem divTick_e (cyc : Nat) (s : State) : (divTick cyc s).e = s.e := rfl
@[simp] theorem divTick_h (cyc : Nat) (s : State) : (divTick cyc s).h = s.h := rfl
@[simp] theorem divTick_l (cyc : Nat) (s : State) : (divTick cyc s).l = s.l := rfl
@[simp] theorem divTick_sp (cyc : Nat) (s : State) : (divTick cyc s).sp = s.sp := rfl
@[simp] theorem divTick_pc (cyc : Nat) (s : State) : (divTick cyc s).pc = s.pc := rfl
@[simp] theorem divTick_cpuMode (cyc : Nat) (s : State) : (divTick cyc s).cpuMode = s.cpuMode := rfl
@[simp] theorem divTick_ime (cyc : Nat) (s : State) : (divTick cyc s).ime = s.ime := rfl
@[simp] theorem divTick_eiPending (cyc : Nat) (s : State) : (divTick cyc s).eiPending = s.eiPending := rfl
@[simp] theorem divTick_cycles (cyc : Nat) (s : State) : (divTick cyc s).cycles = s.cycles := rfl
@[simp] theorem divTick_rom (cyc : Nat) (s : State) : (divTick cyc s).rom = s.rom := rfl
@[simp] theorem divTick_romSize (cyc : Nat) (s : State) : (divTick cyc s).romSize = s.romSize := rfl
@[simp] theorem divTick_boot (cyc : Nat) (s : State) : (divTick cyc s).boot = s.boot := rfl
@[simp] theorem divTick_vram (cyc : Nat) (s : State) : (divTick cyc s).vram = s.vram := rfl
@[simp] theorem divTick_eram (cyc : Nat) (s : State) : (divTick cyc s).eram = s.eram := rfl
@[simp] theorem divTick_wram (cyc : Nat) (s : State) : (divTick cyc s).wram = s.wram := rfl
@[simp] theorem divTick_oam (cyc : Nat) (s : State) : (divTick cyc s).oam = s.oam := rfl
@[simp] theorem divTick_hram (cyc : Nat) (s : State) : (divTick cyc s).hram = s.hram := rfl
@[simp] theorem divTick_romBank (cyc : Nat) (s : State) : (divTick cyc s).romBank = s.romBank := rfl
@[simp] theorem divTick_ramBank (cyc : Nat) (s : State) : (divTick cyc s).ramBank = s.ramBank := rfl
@[simp] theorem divTick_ramEnabled (cyc : Nat) (s : State) : (divTick cyc s).ramEnabled = s.ramEnabled := rfl
@[simp] theorem divTick_bankingMode (cyc : Nat) (s : State) : (divTick cyc s).bankingMode = s.bankingMode := rfl
@[simp] theorem divTick_cartBanked (cyc : Nat) (s : State) : (divTick cyc s).cartBanked = s.cartBanked := rfl
@[simp] theorem divTick_bootMapped (cyc : Nat) (s : State) : (divTick cyc s).bootMapped = s.bootMapped := rfl
@[simp] theorem divTick_dmaLast (cyc : Nat) (s : State) : (divTick cyc s).dmaLast = s.dmaLast := rfl
@[simp] theorem divTick_ifReg (cyc : Nat) (s : State) : (divTick cyc s).ifReg = s.ifReg := rfl
@[simp] theorem divTick_ieReg (cyc : Nat) (s : State) : (divTick cyc s).ieReg = s.ieReg := rfl
@[simp] theorem divTick_divAcc (cyc : Nat) (s : State) : (divTick cyc s).divAcc = (s.divAcc + cyc) % Config.divPeriod := rfl
@[simp] theorem divTick_tima (cyc : Nat) (s : State) : (divTick cyc s).tima = s.tima := rfl
@[simp] theorem divTick_tma (cyc : Nat) (s : State) : (divTick cyc s).tma = s.tma := rfl
@[simp] theorem divTick_tac (cyc : Nat) (s : State) : (divTick cyc s).tac = s.tac := rfl
@[simp] theorem divTick_timaAcc (cyc : Nat) (s : State) : (divTick cyc s).timaAcc = s.timaAcc := rfl
@[simp] theorem divTick_lcdc (cyc : Nat) (s : State) : (divTick cyc s).lcdc = s.lcdc := rfl
@[simp] theorem divTick_statEn (cyc : Nat) (s : State) : (divTick cyc s).statEn = s.statEn := rfl
@[simp] theorem divTick_ppuMode (cyc : Nat) (s : State) : (divTick cyc s).ppuMode = s.ppuMode := rfl
@[simp] theorem divTick_modeClock (cyc : Nat) (s : State) : (divTick cyc s).modeClock = s.modeClock := rfl
@[simp] theorem divTick_coincidence (cyc : Nat) (s : State) : (divTick cyc s).coincidence = s.coincidence := rfl
@[simp] theorem divTick_ly (cyc : Nat) (s : State) : (divTick cyc s).ly = s.ly := rfl
@[simp] theorem divTick_lyc (cyc : Nat) (s : State) : (divTick cyc s).lyc = s.lyc := rfl
@[simp] theorem divTick_scy (cyc : Nat) (s : State) : (divTick cyc s).scy = s.scy := rfl
@[simp] theorem divTick_scx (cyc : Nat) (s : State) : (divTick cyc s).scx = s.scx := rfl
@[simp] theorem divTick_bgp (cyc : Nat) (s : State) : (divTick cyc s).bgp = s.bgp := rfl
@[simp] theorem divTick_obp0 (cyc : Nat) (s : State) : (divTick cyc s).obp0 = s.obp0 := rfl
@[simp] theorem divTick_obp1 (cyc : Nat) (s : State) : (divTick cyc s).obp1 = s.obp1 := rfl
@[simp] theorem divTick_wy (cyc : Nat) (s : State) : (divTick cyc s).wy = s.wy := rfl
@[simp] theorem divTick_wx (cyc : Nat) (s : State) : (divTick cyc s).wx = s.wx := rfl
@[simp] theorem divTick_frame (cyc : Nat) (s : State) : (divTick cyc s).frame = s.frame := rfl
@[simp] theorem divTick_sel (cyc : Nat) (s : State) : (divTick cyc s).sel = s.sel := rfl
@[simp] theorem divTick_dirRow (cyc : Nat) (s : State) : (divTick cyc s).dirRow = s.dirRow := rfl
@[simp] theorem divTick_actRow (cyc : Nat) (s : State) : (divTick cyc s).actRow = s.actRow := rfl
@[simp] theorem divTick_haltWakeNeedsIe (cyc : Nat) (s : State) : (divTick cyc s).haltWakeNeedsIe = s.haltWakeNeedsIe := rfl
@[simp] theorem divTick_hostEvents (cyc : Nat) (s : State) : (divTick cyc s).hostEvents = s.hostEvents := rfl

/-! ## timaIncrement -/

@[simp] theorem timaIncrement_a (s : State) : (timaIncrement s).a = s.a := by unfold timaIncrement; split <;> rfl
@[simp] theorem timaIncrement_f (s : State) : (timaIncrement s).f = s.f := by unfold timaIncrement; split <;> rfl
@[simp] theorem timaIncrement_b (s : State) : (timaIncrement s).b = s.b := by unfold timaIncrement; split <;> rfl
@[simp] theorem timaIncrement_c (s : State) : (timaIncrement s).c = s.c := by unfold timaIncrement; split <;> rfl
@[simp] theorem timaIncrement_d (s : State) : (timaIncrement s).d = s.d := by unfold timaIncrement; split <;> rfl
@[simp] theorem timaIncrement_e (s : State) : (timaIncrement s).e = s.e := by unfold timaIncrement; split <;> rfl
@[simp] theorem timaIncrement_h (s : State) : (timaIncrement s).h = s.h := by unfold timaIncrement; split <;> rfl
@[simp] theorem timaIncrement_l (s : State) : (timaIncrement s).l = s.l := by unfold timaIncrement; split <;> rfl
@[simp] theorem timaIncrement_sp (s : State) : (timaIncrement s).sp = s.sp := by unfold timaIncrement; split <;> rfl
@[simp] theorem timaIncrement_pc (s : State) : (timaIncrement s).pc = s.pc := by unfold timaIncrement; split <;> rfl
@[simp] theorem timaIncrement_cpuMode (s : State) : (timaIncrement s).cpuMode = s.cpuMode := by unfold timaIncrement; split <;> rfl
@[simp] theorem timaIncrement_ime (s : State) : (timaIncrement s).ime = s.ime := by unfold timaIncrement; split <;> rfl
@[simp] theorem timaIncrement_eiPending (s : State) : (timaIncrement s).eiPending = s.eiPending := by unfold timaIncrement; split <;> rfl
@[simp] theorem timaIncrement_cycles (s : State) : (timaIncrement s).cycles = s.cycles := by unfold timaIncrement; split <;> rfl
@[simp] theorem timaIncrement_rom (s : State) : (timaIncrement s).rom = s.rom := by unfold timaIncrement; split <;> rfl
@[simp] theorem timaIncrement_romSize (s : State) : (timaIncrement s).romSize = s.romSize := by unfold timaIncrement; split <;> rfl
@[simp] theorem timaIncrement_boot (s : State) : (timaIncrement s).boot = s.boot := by unfold timaIncrement; split <;> rfl
@[simp] theorem timaIncrement_vram (s : State) : (timaIncrement s).vram = s.vram := by unfold timaIncrement; split <;> rfl
@[simp] theorem timaIncrement_eram (s : State) : (timaIncrement s).eram = s.eram := by unfold timaIncrement; split <;> rfl
@[simp] theorem timaIncrement_wram (s : State) : (timaIncrement s).wram = s.wram := by unfold timaIncrement; split <;> rfl
@[simp] theorem timaIncrement_oam (s : State) : (timaIncrement s).oam = s.oam := by unfold timaIncrement; split <;> rfl
@[simp] theorem timaIncrement_hram (s : State) : (timaIncrement s).hram = s.hram := by unfold timaIncrement; split <;> rfl
@[simp] theorem timaIncrement_romBank (s : State) : (timaIncrement s).romBank = s.romBank := by unfold timaIncrement; split <;> rfl
@[simp] theorem timaIncrement_ramBank (s : State) : (timaIncrement s).ramBank = s.ramBank := by unfold timaIncrement; split <;> rfl
@[simp] theorem timaIncrement_ramEnabled (s : State) : (timaIncrement s).ramEnabled = s.ramEnabled := by unfold timaIncrement; split <;> rfl
@[simp] theorem timaIncrement_bankingMode (s : State) : (timaIncrement s).bankingMode = s.bankingMode := by unfold timaIncrement; split <;> rfl
@[simp] theorem timaIncrement_cartBanked (s : State) : (timaIncrement s).cartBanked = s.cartBanked := by unfold timaIncrement; split <;> rfl
@[simp] theorem timaIncrement_bootMapped (s : State) : (timaIncrement s).bootMapped = s.bootMapped := by unfold timaIncrement; split <;> rfl
@[simp] theorem timaIncrement_dmaLast (s : State) : (timaIncrement s).dmaLast = s.dmaLast := by unfold timaIncrement; split <;> rfl
@[simp] theorem timaIncrement_ieReg (s : State) : (timaIncrement s).ieReg = s.ieReg := by unfold timaIncrement; split <;> rfl
@[simp] theorem timaIncrement_div (s : State) : (timaIncrement s).div = s.div := by unfold timaIncrement; split <;> rfl
@[simp] theorem timaIncrement_divAcc (s : State) : (timaIncrement s).divAcc = s.divAcc := by unfold timaIncrement; split <;> rfl
@[simp] theorem timaIncrement_tma (s : State) : (timaIncrement s).tma = s.tma := by unfold timaIncrement; split <;> rfl
@[simp] theorem timaIncrement_tac (s : State) : (timaIncrement s).tac = s.tac := by unfold timaIncrement; split <;> rfl
@[simp] theorem timaIncrement_timaAcc (s : State) : (timaIncrement s).timaAcc = s.timaAcc := by unfold timaIncrement; split <;> rfl
@[simp] theorem timaIncrement_lcdc (s : State) : (timaIncrement s).lcdc = s.lcdc := by unfold timaIncrement; split <;> rfl
@[simp] theorem timaIncrement_statEn (s : State) : (timaIncrement s).statEn = s.statEn := by unfold timaIncrement; split <;> rfl
@[simp] theorem timaIncrement_ppuMode (s : State) : (timaIncrement s).ppuMode = s.ppuMode := by unfold timaIncrement; split <;> rfl
@[simp] theorem timaIncrement_modeClock (s : State) : (timaIncrement s).modeClock = s.modeClock := by unfold timaIncrement; split <;> rfl
@[simp] theorem timaIncrement_coincidence (s : State) : (timaIncrement s).coincidence = s.coincidence := by unfold timaIncrement; split <;> rfl
@[simp] theorem timaIncrement_ly (s : State) : (timaIncrement s).ly = s.ly := by unfold timaIncrement; split <;> rfl
@[simp] theorem timaIncrement_lyc (s : State) : (timaIncrement s).lyc = s.lyc := by unfold timaIncrement; split <;> rfl
@[simp] theorem timaIncrement_scy (s : State) : (timaIncrement s).scy = s.scy := by unfold timaIncrement; split <;> rfl
@[simp] theorem timaIncrement_scx (s : State) : (timaIncrement s).scx = s.scx := by unfold timaIncrement; split <;> rfl
@[simp] theorem timaIncrement_bgp (s : State) : (timaIncrement s).bgp = s.bgp := by unfold timaIncrement; split <;> rfl
@[simp] theorem timaIncrement_obp0 (s : State) : (timaIncrement s).obp0 = s.obp0 := by unfold timaIncrement; split <;> rfl
@[simp] theorem timaIncrement_obp1 (s : State) : (timaIncrement s).obp1 = s.obp1 := by unfold timaIncrement; split <;> rfl
@[simp] theorem timaIncrement_wy (s : State) : (timaIncrement s).wy = s.wy := by unfold timaIncrement; split <;> rfl
@[simp] theorem timaIncrement_wx (s : State) : (timaIncrement s).wx = s.wx := by unfold timaIncrement; split <;> rfl
@[simp] theorem timaIncrement_frame (s : State) : (timaIncrement s).frame = s.frame := by unfold timaIncrement; split <;> rfl
@[simp] theorem timaIncrement_sel (s : State) : (timaIncrement s).sel = s.sel := by unfold timaIncrement; split <;> rfl
@[simp] theorem timaIncrement_dirRow (s : State) : (timaIncrement s).dirRow = s.dirRow := by unfold timaIncrement; split <;> rfl
@[simp] theorem timaIncrement_actRow (s : State) : (timaIncrement s).actRow = s.actRow := by unfold timaIncrement; split <;> rfl
@[simp] theorem timaIncrement_haltWakeNeedsIe (s : State) : (timaIncrement s).haltWakeNeedsIe = s.haltWakeNeedsIe := by unfold timaIncrement; split <;> rfl
@[simp] theorem timaIncrement_hostEvents (s : State) : (timaIncrement s).hostEvents = s.hostEvents := by unfold timaIncrement; split <;> rfl

/-! ## readyToFetch -/

@[simp] theorem readyToFetch_a (s : State) : (readyToFetch s).a = s.a := rfl
@[simp] theorem readyToFetch_f (s : State) : (readyToFetch s).f = s.f := rfl
@[simp] theorem readyToFetch_b (s : State) : (readyToFetch s).b = s.b := rfl
@[simp] theorem readyToFetch_c (s : State) : (readyToFetch s).c = s.c := rfl
@[simp] theorem readyToFetch_d (s : State) : (readyToFetch s).d = s.d := rfl
@[simp] theorem readyToFetch_e (s : State) : (readyToFetch s).e = s.e := rfl
@[simp] theorem readyToFetch_h (s : State) : (readyToFetch s).h = s.h := rfl
@[simp] theorem readyToFetch_l (s : State) : (readyToFetch s).l = s.l := rfl
@[simp] theorem readyToFetch_sp (s : State) : (readyToFetch s).sp = s.sp := rfl
@[simp] theorem readyToFetch_pc (s : State) : (readyToFetch s).pc = s.pc := rfl
@[simp] theorem readyToFetch_cpuMode (s : State) : (readyToFetch s).cpuMode = .running := rfl
@[simp] theorem readyToFetch_eiPending (s : State) : (readyToFetch s).eiPending = s.eiPending := rfl
@[simp] theorem readyToFetch_cycles (s : State) : (readyToFetch s).cycles = s.cycles := rfl
@[simp] theorem readyToFetch_rom (s : State) : (readyToFetch s).rom = s.rom := rfl
@[simp] theorem readyToFetch_romSize (s : State) : (readyToFetch s).romSize = s.romSize := rfl
@[simp] theorem readyToFetch_boot (s : State) : (readyToFetch s).boot = s.boot := rfl
@[simp] theorem readyToFetch_vram (s : State) : (readyToFetch s).vram = s.vram := rfl
@[simp] theorem readyToFetch_eram (s : State) : (readyToFetch s).eram = s.eram := rfl
@[simp] theorem readyToFetch_wram (s : State) : (readyToFetch s).wram = s.wram := rfl
@[simp] theorem readyToFetch_oam (s : State) : (readyToFetch s).oam = s.oam := rfl
@[simp] theorem readyToFetch_hram (s : State) : (readyToFetch s).hram = s.hram := rfl
@[simp] theorem readyToFetch_romBank (s : State) : (readyToFetch s).romBank = s.romBank := rfl
@[simp] theorem readyToFetch_ramBank (s : State) : (readyToFetch s).ramBank = s.ramBank := rfl
@[simp] theorem readyToFetch_ramEnabled (s : State) : (readyToFetch s).ramEnabled = s.ramEnabled := rfl
@[simp] theorem readyToFetch_bankingMode (s : State) : (readyToFetch s).bankingMode = s.bankingMode := rfl
@[simp] theorem readyToFetch_cartBanked (s : State) : (readyToFetch s).cartBanked = s.cartBanked := rfl
@[simp] theorem readyToFetch_bootMapped (s : State) : (readyToFetch s).bootMapped = s.bootMapped := rfl
@[simp] theorem readyToFetch_dmaLast (s : State) : (readyToFetch s).dmaLast = s.dmaLast := rfl
@[simp] theorem readyToFetch_ifReg (s : State) : (readyToFetch s).ifReg = s.ifReg := rfl
@[simp] theorem readyToFetch_ieReg (s : State) : (readyToFetch s).ieReg = s.ieReg := rfl
@[simp] theorem readyToFetch_div (s : State) : (readyToFetch s).div = s.div := rfl
@[simp] theorem readyToFetch_divAcc (s : State) : (readyToFetch s).divAcc = s.divAcc := rfl
@[simp] theorem readyToFetch_tima (s : State) : (readyToFetch s).tima = s.tima := rfl
@[simp] theorem readyToFetch_tma (s : State) : (readyToFetch s).tma = s.tma := rfl
@[simp] theorem readyToFetch_tac (s : State) : (readyToFetch s).tac = s.tac := rfl
@[simp] theorem readyToFetch_timaAcc (s : State) : (readyToFetch s).timaAcc = s.timaAcc := rfl
@[simp] theorem readyToFetch_lcdc (s : State) : (readyToFetch s).lcdc = s.lcdc := rfl
@[simp] theorem readyToFetch_statEn (s : State) : (readyToFetch s).statEn = s.statEn := rfl
@[simp] theorem readyToFetch_ppuMode (s : State) : (readyToFetch s).ppuMode = s.ppuMode := rfl
@[simp] theorem readyToFetch_modeClock (s : State) : (readyToFetch s).modeClock = s.modeClock := rfl
@[simp] theorem readyToFetch_coincidence (s : State) : (readyToFetch s).coincidence = s.coincidence := rfl
@[simp] theorem readyToFetch_ly (s : State) : (readyToFetch s).ly = s.ly := rfl
@[simp] theorem readyToFetch_lyc (s : State) : (readyToFetch s).lyc = s.lyc := rfl
@[simp] theorem readyToFetch_scy (s : State) : (readyToFetch s).scy = s.scy := rfl
@[simp] theorem readyToFetch_scx (s : State) : (readyToFetch s).scx = s.scx := rfl
@[simp] theorem readyToFetch_bgp (s : State) : (readyToFetch s).bgp = s.bgp := rfl
@[simp] theorem readyToFetch_obp0 (s : State) : (readyToFetch s).obp0 = s.obp0 := rfl
@[simp] theorem readyToFetch_obp1 (s : State) : (readyToFetch s).obp1 = s.obp1 := rfl
@[simp] theorem readyToFetch_wy (s : State) : (readyToFetch s).wy = s.wy := rfl
@[simp] theorem readyToFetch_wx (s : State) : (readyToFetch s).wx = s.wx := rfl
@[simp] theorem readyToFetch_frame (s : State) : (readyToFetch s).frame = s.frame := rfl
@[simp] theorem readyToFetch_sel (s : State) : (readyToFetch s).sel = s.sel := rfl
@[simp] theorem readyToFetch_dirRow (s : State) : (readyToFetch s).dirRow = s.dirRow := rfl
@[simp] theorem readyToFetch_actRow (s : State) : (readyToFetch s).actRow = s.actRow := rfl
@[simp] theorem readyToFetch_haltWakeNeedsIe (s : State) : (readyToFetch s).haltWakeNeedsIe = s.haltWakeNeedsIe := rfl
@[simp] theorem readyToFetch_hostEvents (s : State) : (readyToFetch s).hostEvents = [] := rfl

end Sys2Proof.Machine
end

