-- ==== Sys2Proof/Laws/Bus.lean ====
section
/-! SUPPORT. The bus: what a write leaves unchanged, what each of its parts does, and that it keeps the storage arrays legal. -/

namespace Sys2Proof.Machine

/-! ## The OAM-DMA copy -/

theorem dmaByte_eq (v : Byte) (s : State) (i : Nat) : dmaByte v s i = { s with oam := (dmaByte v s i).oam } := rfl

/-- The copy changes the sprite attributes alone. -/
theorem dmaFold_eq (v : Byte) : ∀ (is : List Nat) (s : State),
    is.foldl (dmaByte v) s = { s with oam := (is.foldl (dmaByte v) s).oam }
  | [], _ => rfl
  | i :: is, s => by
    have ih := dmaFold_eq v is (dmaByte v s i)
    simp only [List.foldl_cons]
    exact ih

theorem oamDma_eq (v : Byte) (s : State) : oamDma v s = { s with oam := (oamDma v s).oam } :=
  dmaFold_eq v _ s

/-! ## What a write leaves -/

@[simp] theorem oamDma_a (v : Byte) (s : State) : (oamDma v s).a = s.a := by
  rw [oamDma_eq]
@[simp] theorem oamDma_f (v : Byte) (s : State) : (oamDma v s).f = s.f := by
  rw [oamDma_eq]
@[simp] theorem oamDma_b (v : Byte) (s : State) : (oamDma v s).b = s.b := by
  rw [oamDma_eq]
@[simp] theorem oamDma_c (v : Byte) (s : State) : (oamDma v s).c = s.c := by
  rw [oamDma_eq]
@[simp] theorem oamDma_d (v : Byte) (s : State) : (oamDma v s).d = s.d := by
  rw [oamDma_eq]
@[simp] theorem oamDma_e (v : Byte) (s : State) : (oamDma v s).e = s.e := by
  rw [oamDma_eq]
@[simp] theorem oamDma_h (v : Byte) (s : State) : (oamDma v s).h = s.h := by
  rw [oamDma_eq]
@[simp] theorem oamDma_l (v : Byte) (s : State) : (oamDma v s).l = s.l := by
  rw [oamDma_eq]
@[simp] theorem oamDma_sp (v : Byte) (s : State) : (oamDma v s).sp = s.sp := by
  rw [oamDma_eq]
@[simp] theorem oamDma_pc (v : Byte) (s : State) : (oamDma v s).pc = s.pc := by
  rw [oamDma_eq]
@[simp] theorem oamDma_cpuMode (v : Byte) (s : State) : (oamDma v s).cpuMode = s.cpuMode := by
  rw [oamDma_eq]
@[simp] theorem oamDma_ime (v : Byte) (s : State) : (oamDma v s).ime = s.ime := by
  rw [oamDma_eq]
@[simp] theorem oamDma_eiPending (v : Byte) (s : State) : (oamDma v s).eiPending = s.eiPending := by
  rw [oamDma_eq]
@[simp] theorem oamDma_cycles (v : Byte) (s : State) : (oamDma v s).cycles = s.cycles := by
  rw [oamDma_eq]
@[simp] theorem oamDma_rom (v : Byte) (s : State) : (oamDma v s).rom = s.rom := by
  rw [oamDma_eq]
@[simp] theorem oamDma_romSize (v : Byte) (s : State) : (oamDma v s).romSize = s.romSize := by
  rw [oamDma_eq]
@[simp] theorem oamDma_boot (v : Byte) (s : State) : (oamDma v s).boot = s.boot := by
  rw [oamDma_eq]
@[simp] theorem oamDma_cartBanked (v : Byte) (s : State) : (oamDma v s).cartBanked = s.cartBanked := by
  rw [oamDma_eq]
@[simp] theorem oamDma_timaAcc (v : Byte) (s : State) : (oamDma v s).timaAcc = s.timaAcc := by
  rw [oamDma_eq]
@[simp] theorem oamDma_ppuMode (v : Byte) (s : State) : (oamDma v s).ppuMode = s.ppuMode := by
  rw [oamDma_eq]
@[simp] theorem oamDma_modeClock (v : Byte) (s : State) : (oamDma v s).modeClock = s.modeClock := by
  rw [oamDma_eq]
@[simp] theorem oamDma_ly (v : Byte) (s : State) : (oamDma v s).ly = s.ly := by
  rw [oamDma_eq]
@[simp] theorem oamDma_frame (v : Byte) (s : State) : (oamDma v s).frame = s.frame := by
  rw [oamDma_eq]
@[simp] theorem oamDma_dirRow (v : Byte) (s : State) : (oamDma v s).dirRow = s.dirRow := by
  rw [oamDma_eq]
@[simp] theorem oamDma_actRow (v : Byte) (s : State) : (oamDma v s).actRow = s.actRow := by
  rw [oamDma_eq]
@[simp] theorem oamDma_haltWakeNeedsIe (v : Byte) (s : State) : (oamDma v s).haltWakeNeedsIe = s.haltWakeNeedsIe := by
  rw [oamDma_eq]
@[simp] theorem oamDma_hostEvents (v : Byte) (s : State) : (oamDma v s).hostEvents = s.hostEvents := by
  rw [oamDma_eq]
@[simp] theorem oamDma_vram (v : Byte) (s : State) : (oamDma v s).vram = s.vram := by
  rw [oamDma_eq]
@[simp] theorem oamDma_eram (v : Byte) (s : State) : (oamDma v s).eram = s.eram := by
  rw [oamDma_eq]
@[simp] theorem oamDma_wram (v : Byte) (s : State) : (oamDma v s).wram = s.wram := by
  rw [oamDma_eq]
@[simp] theorem oamDma_hram (v : Byte) (s : State) : (oamDma v s).hram = s.hram := by
  rw [oamDma_eq]
@[simp] theorem oamDma_romBank (v : Byte) (s : State) : (oamDma v s).romBank = s.romBank := by
  rw [oamDma_eq]
@[simp] theorem oamDma_ramBank (v : Byte) (s : State) : (oamDma v s).ramBank = s.ramBank := by
  rw [oamDma_eq]
@[simp] theorem oamDma_ramEnabled (v : Byte) (s : State) : (oamDma v s).ramEnabled = s.ramEnabled := by
  rw [oamDma_eq]
@[simp] theorem oamDma_bankingMode (v : Byte) (s : State) : (oamDma v s).bankingMode = s.bankingMode := by
  rw [oamDma_eq]
@[simp] theorem oamDma_bootMapped (v : Byte) (s : State) : (oamDma v s).bootMapped = s.bootMapped := by
  rw [oamDma_eq]
@[simp] theorem oamDma_dmaLast (v : Byte) (s : State) : (oamDma v s).dmaLast = s.dmaLast := by
  rw [oamDma_eq]
@[simp] theorem oamDma_ifReg (v : Byte) (s : State) : (oamDma v s).ifReg = s.ifReg := by
  rw [oamDma_eq]
@[simp] theorem oamDma_ieReg (v : Byte) (s : State) : (oamDma v s).ieReg = s.ieReg := by
  rw [oamDma_eq]
@[simp] theorem oamDma_div (v : Byte) (s : State) : (oamDma v s).div = s.div := by
  rw [oamDma_eq]
@[simp] theorem oamDma_divAcc (v : Byte) (s : State) : (oamDma v s).divAcc = s.divAcc := by
  rw [oamDma_eq]
@[simp] theorem oamDma_tima (v : Byte) (s : State) : (oamDma v s).tima = s.tima := by
  rw [oamDma_eq]
@[simp] theorem oamDma_tma (v : Byte) (s : State) : (oamDma v s).tma = s.tma := by
  rw [oamDma_eq]
@[simp] theorem oamDma_tac (v : Byte) (s : State) : (oamDma v s).tac = s.tac := by
  rw [oamDma_eq]
@[simp] theorem oamDma_lcdc (v : Byte) (s : State) : (oamDma v s).lcdc = s.lcdc := by
  rw [oamDma_eq]
@[simp] theorem oamDma_statEn (v : Byte) (s : State) : (oamDma v s).statEn = s.statEn := by
  rw [oamDma_eq]
@[simp] theorem oamDma_coincidence (v : Byte) (s : State) : (oamDma v s).coincidence = s.coincidence := by
  rw [oamDma_eq]
@[simp] theorem oamDma_lyc (v : Byte) (s : State) : (oamDma v s).lyc = s.lyc := by
  rw [oamDma_eq]
@[simp] theorem oamDma_scy (v : Byte) (s : State) : (oamDma v s).scy = s.scy := by
  rw [oamDma_eq]
@[simp] theorem oamDma_scx (v : Byte) (s : State) : (oamDma v s).scx = s.scx := by
  rw [oamDma_eq]
@[simp] theorem oamDma_bgp (v : Byte) (s : State) : (oamDma v s).bgp = s.bgp := by
  rw [oamDma_eq]
@[simp] theorem oamDma_obp0 (v : Byte) (s : State) : (oamDma v s).obp0 = s.obp0 := by
  rw [oamDma_eq]
@[simp] theorem oamDma_obp1 (v : Byte) (s : State) : (oamDma v s).obp1 = s.obp1 := by
  rw [oamDma_eq]
@[simp] theorem oamDma_wy (v : Byte) (s : State) : (oamDma v s).wy = s.wy := by
  rw [oamDma_eq]
@[simp] theorem oamDma_wx (v : Byte) (s : State) : (oamDma v s).wx = s.wx := by
  rw [oamDma_eq]
@[simp] theorem oamDma_sel (v : Byte) (s : State) : (oamDma v s).sel = s.sel := by
  rw [oamDma_eq]

@[simp] theorem cartWrite_a (addr : Word) (v : Byte) (s : State) : (cartWrite addr v s).a = s.a := by
  unfold cartWrite selectHigh selectRomLow; (repeat' split) <;> rfl
@[simp] theorem cartWrite_f (addr : Word) (v : Byte) (s : State) : (cartWrite addr v s).f = s.f := by
  unfold cartWrite selectHigh selectRomLow; (repeat' split) <;> rfl
@[simp] theorem cartWrite_b (addr : Word) (v : Byte) (s : State) : (cartWrite addr v s).b = s.b := by
  unfold cartWrite selectHigh selectRomLow; (repeat' split) <;> rfl
@[simp] theorem cartWrite_c (addr : Word) (v : Byte) (s : State) : (cartWrite addr v s).c = s.c := by
  unfold cartWrite selectHigh selectRomLow; (repeat' split) <;> rfl
@[simp] theorem cartWrite_d (addr : Word) (v : Byte) (s : State) : (cartWrite addr v s).d = s.d := by
  unfold cartWrite selectHigh selectRomLow; (repeat' split) <;> rfl
@[simp] theorem cartWrite_e (addr : Word) (v : Byte) (s : State) : (cartWrite addr v s).e = s.e := by
  unfold cartWrite selectHigh selectRomLow; (repeat' split) <;> rfl
@[simp] theorem cartWrite_h (addr : Word) (v : Byte) (s : State) : (cartWrite addr v s).h = s.h := by
  unfold cartWrite selectHigh selectRomLow; (repeat' split) <;> rfl
@[simp] theorem cartWrite_l (addr : Word) (v : Byte) (s : State) : (cartWrite addr v s).l = s.l := by
  unfold cartWrite selectHigh selectRomLow; (repeat' split) <;> rfl
@[simp] theorem cartWrite_sp (addr : Word) (v : Byte) (s : State) : (cartWrite addr v s).sp = s.sp := by
  unfold cartWrite selectHigh selectRomLow; (repeat' split) <;> rfl
@[simp] theorem cartWrite_pc (addr : Word) (v : Byte) (s : State) : (cartWrite addr v s).pc = s.pc := by
  unfold cartWrite selectHigh selectRomLow; (repeat' split) <;> rfl
@[simp] theorem cartWrite_cpuMode (addr : Word) (v : Byte) (s : State) : (cartWrite addr v s).cpuMode = s.cpuMode := by
  unfold cartWrite selectHigh selectRomLow; (repeat' split) <;> rfl
@[simp] theorem cartWrite_ime (addr : Word) (v : Byte) (s : State) : (cartWrite addr v s).ime = s.ime := by
  unfold cartWrite selectHigh selectRomLow; (repeat' split) <;> rfl
@[simp] theorem cartWrite_eiPending (addr : Word) (v : Byte) (s : State) : (cartWrite addr v s).eiPending = s.eiPending := by
  unfold cartWrite selectHigh selectRomLow; (repeat' split) <;> rfl
@[simp] theorem cartWrite_cycles (addr : Word) (v : Byte) (s : State) : (cartWrite addr v s).cycles = s.cycles := by
  unfold cartWrite selectHigh selectRomLow; (repeat' split) <;> rfl
@[simp] theorem cartWrite_rom (addr : Word) (v : Byte) (s : State) : (cartWrite addr v s).rom = s.rom := by
  unfold cartWrite selectHigh selectRomLow; (repeat' split) <;> rfl
@[simp] theorem cartWrite_romSize (addr : Word) (v : Byte) (s : State) : (cartWrite addr v s).romSize = s.romSize := by
  unfold cartWrite selectHigh selectRomLow; (repeat' split) <;> rfl
@[simp] theorem cartWrite_boot (addr : Word) (v : Byte) (s : State) : (cartWrite addr v s).boot = s.boot := by
  unfold cartWrite selectHigh selectRomLow; (repeat' split) <;> rfl
@[simp] theorem cartWrite_cartBanked (addr : Word) (v : Byte) (s : State) : (cartWrite addr v s).cartBanked = s.cartBanked := by
  unfold cartWrite selectHigh selectRomLow; (repeat' split) <;> rfl
@[simp] theorem cartWrite_timaAcc (addr : Word) (v : Byte) (s : State) : (cartWrite addr v s).timaAcc = s.timaAcc := by
  unfold cartWrite selectHigh selectRomLow; (repeat' split) <;> rfl
@[simp] theorem cartWrite_ppuMode (addr : Word) (v : Byte) (s : State) : (cartWrite addr v s).ppuMode = s.ppuMode := by
  unfold cartWrite selectHigh selectRomLow; (repeat' split) <;> rfl
@[simp] theorem cartWrite_modeClock (addr : Word) (v : Byte) (s : State) : (cartWrite addr v s).modeClock = s.modeClock := by
  unfold cartWrite selectHigh selectRomLow; (repeat' split) <;> rfl
@[simp] theorem cartWrite_ly (addr : Word) (v : Byte) (s : State) : (cartWrite addr v s).ly = s.ly := by
  unfold cartWrite selectHigh selectRomLow; (repeat' split) <;> rfl
@[simp] theorem cartWrite_frame (addr : Word) (v : Byte) (s : State) : (cartWrite addr v s).frame = s.frame := by
  unfold cartWrite selectHigh selectRomLow; (repeat' split) <;> rfl
@[simp] theorem cartWrite_dirRow (addr : Word) (v : Byte) (s : State) : (cartWrite addr v s).dirRow = s.dirRow := by
  unfold cartWrite selectHigh selectRomLow; (repeat' split) <;> rfl
@[simp] theorem cartWrite_actRow (addr : Word) (v : Byte) (s : State) : (cartWrite addr v s).actRow = s.actRow := by
  unfold cartWrite selectHigh selectRomLow; (repeat' split) <;> rfl
@[simp] theorem cartWrite_haltWakeNeedsIe (addr : Word) (v : Byte) (s : State) : (cartWrite addr v s).haltWakeNeedsIe = s.haltWakeNeedsIe := by
  unfold cartWrite selectHigh selectRomLow; (repeat' split) <;> rfl
@[simp] theorem cartWrite_hostEvents (addr : Word) (v : Byte) (s : State) : (cartWrite addr v s).hostEvents = s.hostEvents := by
  unfold cartWrite selectHigh selectRomLow; (repeat' split) <;> rfl
@[simp] theorem cartWrite_vram (addr : Word) (v : Byte) (s : State) : (cartWrite addr v s).vram = s.vram := by
  unfold cartWrite selectHigh selectRomLow; (repeat' split) <;> rfl
@[simp] theorem cartWrite_eram (addr : Word) (v : Byte) (s : State) : (cartWrite addr v s).eram = s.eram := by
  unfold cartWrite selectHigh selectRomLow; (repeat' split) <;> rfl
@[simp] theorem cartWrite_wram (addr : Word) (v : Byte) (s : State) : (cartWrite addr v s).wram = s.wram := by
  unfold cartWrite selectHigh selectRomLow; (repeat' split) <;> rfl
@[simp] theorem cartWrite_oam (addr : Word) (v : Byte) (s : State) : (cartWrite addr v s).oam = s.oam := by
  unfold cartWrite selectHigh selectRomLow; (repeat' split) <;> rfl
@[simp] theorem cartWrite_hram (addr : Word) (v : Byte) (s : State) : (cartWrite addr v s).hram = s.hram := by
  unfold cartWrite selectHigh selectRomLow; (repeat' split) <;> rfl
@[simp] theorem cartWrite_bootMapped (addr : Word) (v : Byte) (s : State) : (cartWrite addr v s).bootMapped = s.bootMapped := by
  unfold cartWrite selectHigh selectRomLow; (repeat' split) <;> rfl
@[simp] theorem cartWrite_dmaLast (addr : Word) (v : Byte) (s : State) : (cartWrite addr v s).dmaLast = s.dmaLast := by
  unfold cartWrite selectHigh selectRomLow; (repeat' split) <;> rfl
@[simp] theorem cartWrite_ifReg (addr : Word) (v : Byte) (s : State) : (cartWrite addr v s).ifReg = s.ifReg := by
  unfold cartWrite selectHigh selectRomLow; (repeat' split) <;> rfl
@[simp] theorem cartWrite_ieReg (addr : Word) (v : Byte) (s : State) : (cartWrite addr v s).ieReg = s.ieReg := by
  unfold cartWrite selectHigh selectRomLow; (repeat' split) <;> rfl
@[simp] theorem cartWrite_div (addr : Word) (v : Byte) (s : State) : (cartWrite addr v s).div = s.div := by
  unfold cartWrite selectHigh selectRomLow; (repeat' split) <;> rfl
@[simp] theorem cartWrite_divAcc (addr : Word) (v : Byte) (s : State) : (cartWrite addr v s).divAcc = s.divAcc := by
  unfold cartWrite selectHigh selectRomLow; (repeat' split) <;> rfl
@[simp] theorem cartWrite_tima (addr : Word) (v : Byte) (s : State) : (cartWrite addr v s).tima = s.tima := by
  unfold cartWrite selectHigh selectRomLow; (repeat' split) <;> rfl
@[simp] theorem cartWrite_tma (addr : Word) (v : Byte) (s : State) : (cartWrite addr v s).tma = s.tma := by
  unfold cartWrite selectHigh selectRomLow; (repeat' split) <;> rfl
@[simp] theorem cartWrite_tac (addr : Word) (v : Byte) (s : State) : (cartWrite addr v s).tac = s.tac := by
  unfold cartWrite selectHigh selectRomLow; (repeat' split) <;> rfl
@[simp] theorem cartWrite_lcdc (addr : Word) (v : Byte) (s : State) : (cartWrite addr v s).lcdc = s.lcdc := by
  unfold cartWrite selectHigh selectRomLow; (repeat' split) <;> rfl
@[simp] theorem cartWrite_statEn (addr : Word) (v : Byte) (s : State) : (cartWrite addr v s).statEn = s.statEn := by
  unfold cartWrite selectHigh selectRomLow; (repeat' split) <;> rfl
@[simp] theorem cartWrite_coincidence (addr : Word) (v : Byte) (s : State) : (cartWrite addr v s).coincidence = s.coincidence := by
  unfold cartWrite selectHigh selectRomLow; (repeat' split) <;> rfl
@[simp] theorem cartWrite_lyc (addr : Word) (v : Byte) (s : State) : (cartWrite addr v s).lyc = s.lyc := by
  unfold cartWrite selectHigh selectRomLow; (repeat' split) <;> rfl
@[simp] theorem cartWrite_scy (addr : Word) (v : Byte) (s : State) : (cartWrite addr v s).scy = s.scy := by
  unfold cartWrite selectHigh selectRomLow; (repeat' split) <;> rfl
@[simp] theorem cartWrite_scx (addr : Word) (v : Byte) (s : State) : (cartWrite addr v s).scx = s.scx := by
  unfold cartWrite selectHigh selectRomLow; (repeat' split) <;> rfl
@[simp] theorem cartWrite_bgp (addr : Word) (v : Byte) (s : State) : (cartWrite addr v s).bgp = s.bgp := by
  unfold cartWrite selectHigh selectRomLow; (repeat' split) <;> rfl
@[simp] theorem cartWrite_obp0 (addr : Word) (v : Byte) (s : State) : (cartWrite addr v s).obp0 = s.obp0 := by
  unfold cartWrite selectHigh selectRomLow; (repeat' split) <;> rfl
@[simp] theorem cartWrite_obp1 (addr : Word) (v : Byte) (s : State) : (cartWrite addr v s).obp1 = s.obp1 := by
  unfold cartWrite selectHigh selectRomLow; (repeat' split) <;> rfl
@[simp] theorem cartWrite_wy (addr : Word) (v : Byte) (s : State) : (cartWrite addr v s).wy = s.wy := by
  unfold cartWrite selectHigh selectRomLow; (repeat' split) <;> rfl
@[simp] theorem cartWrite_wx (addr : Word) (v : Byte) (s : State) : (cartWrite addr v s).wx = s.wx := by
  unfold cartWrite selectHigh selectRomLow; (repeat' split) <;> rfl
@[simp] theorem cartWrite_sel (addr : Word) (v : Byte) (s : State) : (cartWrite addr v s).sel = s.sel := by
  unfold cartWrite selectHigh selectRomLow; (repeat' split) <;> rfl

/-- Everything a device register's write can do. -/
theorem writeIo_cases {s : State} (r : IoReg) (v : Byte) {P : State → Prop} (same : P s)
    (sel : P { s with sel := v.extractLsb' 4 2 }) (div : P { s with div := 0x00#8, divAcc := 0 })
    (tima : P { s with tima := v }) (tma : P { s with tma := v }) (tac : P { s with tac := v.extractLsb' 0 3 })
    (ifr : P { s with ifReg := v.extractLsb' 0 5 }) (lcdc : P { s with lcdc := v })
    (stat : P { s with statEn := v.extractLsb' 3 4 }) (scy : P { s with scy := v }) (scx : P { s with scx := v })
    (lyc : P (coincidenceUpdate { s with lyc := v })) (dma : P (oamDma v { s with dmaLast := v }))
    (bgp : P { s with bgp := v }) (obp0 : P { s with obp0 := v }) (obp1 : P { s with obp1 := v })
    (wy : P { s with wy := v }) (wx : P { s with wx := v }) (boot : P { s with bootMapped := false }) :
    P (writeIo r v s) := by
  cases r
  case ly => exact same
  case boot =>
    simp only [writeIo]
    split
    · exact same
    · exact boot
  case joyp => exact sel
  case div => exact div
  case tima => exact tima
  case tma => exact tma
  case tac => exact tac
  case ifr => exact ifr
  case lcdc => exact lcdc
  case stat => exact stat
  case scy => exact scy
  case scx => exact scx
  case lyc => exact lyc
  case dma => exact dma
  case bgp => exact bgp
  case obp0 => exact obp0
  case obp1 => exact obp1
  case wy => exact wy
  case wx => exact wx

/-- Everything a bus write can do. -/
theorem memWrite_cases {s : State} (addr : Word) (v : Byte) {P : State → Prop} (same : P s)
    (cart : P (cartWrite addr v s)) (vram : ∀ i, busTarget s addr = .vram i → P { s with vram := s.vram.write i v })
    (eram : ∀ i, busTarget s addr = .eram i → P { s with eram := s.eram.write i v }) (wram : ∀ i, busTarget s addr = .wram i → P { s with wram := s.wram.write i v })
    (oam : ∀ i, busTarget s addr = .oam i → P { s with oam := s.oam.write i v }) (io : ∀ r, busTarget s addr = .io r → P (writeIo r v s))
    (hram : ∀ i, busTarget s addr = .hram i → P { s with hram := s.hram.write i v }) (ie : P { s with ieReg := v.extractLsb' 0 5 }) :
    P (memWrite s addr v) := by
  unfold memWrite
  generalize busTarget s addr = target at *
  cases target
  case vram i => exact vram i rfl
  case eram i => exact eram i rfl
  case wram i => exact wram i rfl
  case oam i => exact oam i rfl
  case hram i => exact hram i rfl
  case io r => exact io r rfl
  case boot => exact cart
  case rom => exact cart
  case ie => exact ie
  all_goals exact same

@[simp] theorem writeIo_a (r : IoReg) (v : Byte) (s : State) : (writeIo r v s).a = s.a := by
  apply writeIo_cases (P := fun t => t.a = s.a) <;> simp
@[simp] theorem writeIo_f (r : IoReg) (v : Byte) (s : State) : (writeIo r v s).f = s.f := by
  apply writeIo_cases (P := fun t => t.f = s.f) <;> simp
@[simp] theorem writeIo_b (r : IoReg) (v : Byte) (s : State) : (writeIo r v s).b = s.b := by
  apply writeIo_cases (P := fun t => t.b = s.b) <;> simp
@[simp] theorem writeIo_c (r : IoReg) (v : Byte) (s : State) : (writeIo r v s).c = s.c := by
  apply writeIo_cases (P := fun t => t.c = s.c) <;> simp
@[simp] theorem writeIo_d (r : IoReg) (v : Byte) (s : State) : (writeIo r v s).d = s.d := by
  apply writeIo_cases (P := fun t => t.d = s.d) <;> simp
@[simp] theorem writeIo_e (r : IoReg) (v : Byte) (s : State) : (writeIo r v s).e = s.e := by
  apply writeIo_cases (P := fun t => t.e = s.e) <;> simp
@[simp] theorem writeIo_h (r : IoReg) (v : Byte) (s : State) : (writeIo r v s).h = s.h := by
  apply writeIo_cases (P := fun t => t.h = s.h) <;> simp
@[simp] theorem writeIo_l (r : IoReg) (v : Byte) (s : State) : (writeIo r v s).l = s.l := by
  apply writeIo_cases (P := fun t => t.l = s.l) <;> simp
@[simp] theorem writeIo_sp (r : IoReg) (v : Byte) (s : State) : (writeIo r v s).sp = s.sp := by
  apply writeIo_cases (P := fun t => t.sp = s.sp) <;> simp
@[simp] theorem writeIo_pc (r : IoReg) (v : Byte) (s : State) : (writeIo r v s).pc = s.pc := by
  apply writeIo_cases (P := fun t => t.pc = s.pc) <;> simp
@[simp] theorem writeIo_cpuMode (r : IoReg) (v : Byte) (s : State) : (writeIo r v s).cpuMode = s.cpuMode := by
  apply writeIo_cases (P := fun t => t.cpuMode = s.cpuMode) <;> simp
@[simp] theorem writeIo_ime (r : IoReg) (v : Byte) (s : State) : (writeIo r v s).ime = s.ime := by
  apply writeIo_cases (P := fun t => t.ime = s.ime) <;> simp
@[simp] theorem writeIo_eiPending (r : IoReg) (v : Byte) (s : State) : (writeIo r v s).eiPending = s.eiPending := by
  apply writeIo_cases (P := fun t => t.eiPending = s.eiPending) <;> simp
@[simp] theorem writeIo_cycles (r : IoReg) (v : Byte) (s : State) : (writeIo r v s).cycles = s.cycles := by
  apply writeIo_cases (P := fun t => t.cycles = s.cycles) <;> simp
@[simp] theorem writeIo_rom (r : IoReg) (v : Byte) (s : State) : (writeIo r v s).rom = s.rom := by
  apply writeIo_cases (P := fun t => t.rom = s.rom) <;> simp
@[simp] theorem writeIo_romSize (r : IoReg) (v : Byte) (s : State) : (writeIo r v s).romSize = s.romSize := by
  apply writeIo_cases (P := fun t => t.romSize = s.romSize) <;> simp
@[simp] theorem writeIo_boot (r : IoReg) (v : Byte) (s : State) : (writeIo r v s).boot = s.boot := by
  apply writeIo_cases (P := fun t => t.boot = s.boot) <;> simp
@[simp] theorem writeIo_cartBanked (r : IoReg) (v : Byte) (s : State) : (writeIo r v s).cartBanked = s.cartBanked := by
  apply writeIo_cases (P := fun t => t.cartBanked = s.cartBanked) <;> simp
@[simp] theorem writeIo_timaAcc (r : IoReg) (v : Byte) (s : State) : (writeIo r v s).timaAcc = s.timaAcc := by
  apply writeIo_cases (P := fun t => t.timaAcc = s.timaAcc) <;> simp
@[simp] theorem writeIo_ppuMode (r : IoReg) (v : Byte) (s : State) : (writeIo r v s).ppuMode = s.ppuMode := by
  apply writeIo_cases (P := fun t => t.ppuMode = s.ppuMode) <;> simp
@[simp] theorem writeIo_modeClock (r : IoReg) (v : Byte) (s : State) : (writeIo r v s).modeClock = s.modeClock := by
  apply writeIo_cases (P := fun t => t.modeClock = s.modeClock) <;> simp
@[simp] theorem writeIo_ly (r : IoReg) (v : Byte) (s : State) : (writeIo r v s).ly = s.ly := by
  apply writeIo_cases (P := fun t => t.ly = s.ly) <;> simp
@[simp] theorem writeIo_frame (r : IoReg) (v : Byte) (s : State) : (writeIo r v s).frame = s.frame := by
  apply writeIo_cases (P := fun t => t.frame = s.frame) <;> simp
@[simp] theorem writeIo_dirRow (r : IoReg) (v : Byte) (s : State) : (writeIo r v s).dirRow = s.dirRow := by
  apply writeIo_cases (P := fun t => t.dirRow = s.dirRow) <;> simp
@[simp] theorem writeIo_actRow (r : IoReg) (v : Byte) (s : State) : (writeIo r v s).actRow = s.actRow := by
  apply writeIo_cases (P := fun t => t.actRow = s.actRow) <;> simp
@[simp] theorem writeIo_haltWakeNeedsIe (r : IoReg) (v : Byte) (s : State) : (writeIo r v s).haltWakeNeedsIe = s.haltWakeNeedsIe := by
  apply writeIo_cases (P := fun t => t.haltWakeNeedsIe = s.haltWakeNeedsIe) <;> simp
@[simp] theorem writeIo_hostEvents (r : IoReg) (v : Byte) (s : State) : (writeIo r v s).hostEvents = s.hostEvents := by
  apply writeIo_cases (P := fun t => t.hostEvents = s.hostEvents) <;> simp
@[simp] theorem writeIo_vram (r : IoReg) (v : Byte) (s : State) : (writeIo r v s).vram = s.vram := by
  apply writeIo_cases (P := fun t => t.vram = s.vram) <;> simp
@[simp] theorem writeIo_eram (r : IoReg) (v : Byte) (s : State) : (writeIo r v s).eram = s.eram := by
  apply writeIo_cases (P := fun t => t.eram = s.eram) <;> simp
@[simp] theorem writeIo_wram (r : IoReg) (v : Byte) (s : State) : (writeIo r v s).wram = s.wram := by
  apply writeIo_cases (P := fun t => t.wram = s.wram) <;> simp
@[simp] theorem writeIo_hram (r : IoReg) (v : Byte) (s : State) : (writeIo r v s).hram = s.hram := by
  apply writeIo_cases (P := fun t => t.hram = s.hram) <;> simp
@[simp] theorem writeIo_ieReg (r : IoReg) (v : Byte) (s : State) : (writeIo r v s).ieReg = s.ieReg := by
  apply writeIo_cases (P := fun t => t.ieReg = s.ieReg) <;> simp
@[simp] theorem writeIo_romBank (r : IoReg) (v : Byte) (s : State) : (writeIo r v s).romBank = s.romBank := by
  apply writeIo_cases (P := fun t => t.romBank = s.romBank) <;> simp
@[simp] theorem writeIo_ramBank (r : IoReg) (v : Byte) (s : State) : (writeIo r v s).ramBank = s.ramBank := by
  apply writeIo_cases (P := fun t => t.ramBank = s.ramBank) <;> simp
@[simp] theorem writeIo_ramEnabled (r : IoReg) (v : Byte) (s : State) : (writeIo r v s).ramEnabled = s.ramEnabled := by
  apply writeIo_cases (P := fun t => t.ramEnabled = s.ramEnabled) <;> simp
@[simp] theorem writeIo_bankingMode (r : IoReg) (v : Byte) (s : State) : (writeIo r v s).bankingMode = s.bankingMode := by
  apply writeIo_cases (P := fun t => t.bankingMode = s.bankingMode) <;> simp

@[simp] theorem memWrite_a (s : State) (addr : Word) (v : Byte) : (memWrite s addr v).a = s.a := by
  apply memWrite_cases (P := fun t => t.a = s.a) <;> intros <;> simp
@[simp] theorem memWrite_f (s : State) (addr : Word) (v : Byte) : (memWrite s addr v).f = s.f := by
  apply memWrite_cases (P := fun t => t.f = s.f) <;> intros <;> simp
@[simp] theorem memWrite_b (s : State) (addr : Word) (v : Byte) : (memWrite s addr v).b = s.b := by
  apply memWrite_cases (P := fun t => t.b = s.b) <;> intros <;> simp
@[simp] theorem memWrite_c (s : State) (addr : Word) (v : Byte) : (memWrite s addr v).c = s.c := by
  apply memWrite_cases (P := fun t => t.c = s.c) <;> intros <;> simp
@[simp] theorem memWrite_d (s : State) (addr : Word) (v : Byte) : (memWrite s addr v).d = s.d := by
  apply memWrite_cases (P := fun t => t.d = s.d) <;> intros <;> simp
@[simp] theorem memWrite_e (s : State) (addr : Word) (v : Byte) : (memWrite s addr v).e = s.e := by
  apply memWrite_cases (P := fun t => t.e = s.e) <;> intros <;> simp
@[simp] theorem memWrite_h (s : State) (addr : Word) (v : Byte) : (memWrite s addr v).h = s.h := by
  apply memWrite_cases (P := fun t => t.h = s.h) <;> intros <;> simp
@[simp] theorem memWrite_l (s : State) (addr : Word) (v : Byte) : (memWrite s addr v).l = s.l := by
  apply memWrite_cases (P := fun t => t.l = s.l) <;> intros <;> simp
@[simp] theorem memWrite_sp (s : State) (addr : Word) (v : Byte) : (memWrite s addr v).sp = s.sp := by
  apply memWrite_cases (P := fun t => t.sp = s.sp) <;> intros <;> simp
@[simp] theorem memWrite_pc (s : State) (addr : Word) (v : Byte) : (memWrite s addr v).pc = s.pc := by
  apply memWrite_cases (P := fun t => t.pc = s.pc) <;> intros <;> simp
@[simp] theorem memWrite_cpuMode (s : State) (addr : Word) (v : Byte) : (memWrite s addr v).cpuMode = s.cpuMode := by
  apply memWrite_cases (P := fun t => t.cpuMode = s.cpuMode) <;> intros <;> simp
@[simp] theorem memWrite_ime (s : State) (addr : Word) (v : Byte) : (memWrite s addr v).ime = s.ime := by
  apply memWrite_cases (P := fun t => t.ime = s.ime) <;> intros <;> simp
@[simp] theorem memWrite_eiPending (s : State) (addr : Word) (v : Byte) : (memWrite s addr v).eiPending = s.eiPending := by
  apply memWrite_cases (P := fun t => t.eiPending = s.eiPending) <;> intros <;> simp
@[simp] theorem memWrite_cycles (s : State) (addr : Word) (v : Byte) : (memWrite s addr v).cycles = s.cycles := by
  apply memWrite_cases (P := fun t => t.cycles = s.cycles) <;> intros <;> simp
@[simp] theorem memWrite_rom (s : State) (addr : Word) (v : Byte) : (memWrite s addr v).rom = s.rom := by
  apply memWrite_cases (P := fun t => t.rom = s.rom) <;> intros <;> simp
@[simp] theorem memWrite_romSize (s : State) (addr : Word) (v : Byte) : (memWrite s addr v).romSize = s.romSize := by
  apply memWrite_cases (P := fun t => t.romSize = s.romSize) <;> intros <;> simp
@[simp] theorem memWrite_boot (s : State) (addr : Word) (v : Byte) : (memWrite s addr v).boot = s.boot := by
  apply memWrite_cases (P := fun t => t.boot = s.boot) <;> intros <;> simp
@[simp] theorem memWrite_cartBanked (s : State) (addr : Word) (v : Byte) : (memWrite s addr v).cartBanked = s.cartBanked := by
  apply memWrite_cases (P := fun t => t.cartBanked = s.cartBanked) <;> intros <;> simp
@[simp] theorem memWrite_timaAcc (s : State) (addr : Word) (v : Byte) : (memWrite s addr v).timaAcc = s.timaAcc := by
  apply memWrite_cases (P := fun t => t.timaAcc = s.timaAcc) <;> intros <;> simp
@[simp] theorem memWrite_ppuMode (s : State) (addr : Word) (v : Byte) : (memWrite s addr v).ppuMode = s.ppuMode := by
  apply memWrite_cases (P := fun t => t.ppuMode = s.ppuMode) <;> intros <;> simp
@[simp] theorem memWrite_modeClock (s : State) (addr : Word) (v : Byte) : (memWrite s addr v).modeClock = s.modeClock := by
  apply memWrite_cases (P := fun t => t.modeClock = s.modeClock) <;> intros <;> simp
@[simp] theorem memWrite_ly (s : State) (addr : Word) (v : Byte) : (memWrite s addr v).ly = s.ly := by
  apply memWrite_cases (P := fun t => t.ly = s.ly) <;> intros <;> simp
@[simp] theorem memWrite_frame (s : State) (addr : Word) (v : Byte) : (memWrite s addr v).frame = s.frame := by
  apply memWrite_cases (P := fun t => t.frame = s.frame) <;> intros <;> simp
@[simp] theorem memWrite_dirRow (s : State) (addr : Word) (v : Byte) : (memWrite s addr v).dirRow = s.dirRow := by
  apply memWrite_cases (P := fun t => t.dirRow = s.dirRow) <;> intros <;> simp
@[simp] theorem memWrite_actRow (s : State) (addr : Word) (v : Byte) : (memWrite s addr v).actRow = s.actRow := by
  apply memWrite_cases (P := fun t => t.actRow = s.actRow) <;> intros <;> simp
@[simp] theorem memWrite_haltWakeNeedsIe (s : State) (addr : Word) (v : Byte) : (memWrite s addr v).haltWakeNeedsIe = s.haltWakeNeedsIe := by
  apply memWrite_cases (P := fun t => t.haltWakeNeedsIe = s.haltWakeNeedsIe) <;> intros <;> simp
@[simp] theorem memWrite_hostEvents (s : State) (addr : Word) (v : Byte) : (memWrite s addr v).hostEvents = s.hostEvents := by
  apply memWrite_cases (P := fun t => t.hostEvents = s.hostEvents) <;> intros <;> simp

@[simp] theorem push16_a (w : Word) (s : State) : (push16 w s).a = s.a := by
  simp [push16]
@[simp] theorem push16_f (w : Word) (s : State) : (push16 w s).f = s.f := by
  simp [push16]
@[simp] theorem push16_b (w : Word) (s : State) : (push16 w s).b = s.b := by
  simp [push16]
@[simp] theorem push16_c (w : Word) (s : State) : (push16 w s).c = s.c := by
  simp [push16]
@[simp] theorem push16_d (w : Word) (s : State) : (push16 w s).d = s.d := by
  simp [push16]
@[simp] theorem push16_e (w : Word) (s : State) : (push16 w s).e = s.e := by
  simp [push16]
@[simp] theorem push16_h (w : Word) (s : State) : (push16 w s).h = s.h := by
  simp [push16]
@[simp] theorem push16_l (w : Word) (s : State) : (push16 w s).l = s.l := by
  simp [push16]
@[simp] theorem push16_pc (w : Word) (s : State) : (push16 w s).pc = s.pc := by
  simp [push16]
@[simp] theorem push16_cpuMode (w : Word) (s : State) : (push16 w s).cpuMode = s.cpuMode := by
  simp [push16]
@[simp] theorem push16_ime (w : Word) (s : State) : (push16 w s).ime = s.ime := by
  simp [push16]
@[simp] theorem push16_eiPending (w : Word) (s : State) : (push16 w s).eiPending = s.eiPending := by
  simp [push16]
@[simp] theorem push16_cycles (w : Word) (s : State) : (push16 w s).cycles = s.cycles := by
  simp [push16]
@[simp] theorem push16_rom (w : Word) (s : State) : (push16 w s).rom = s.rom := by
  simp [push16]
@[simp] theorem push16_romSize (w : Word) (s : State) : (push16 w s).romSize = s.romSize := by
  simp [push16]
@[simp] theorem push16_boot (w : Word) (s : State) : (push16 w s).boot = s.boot := by
  simp [push16]
@[simp] theorem push16_cartBanked (w : Word) (s : State) : (push16 w s).cartBanked = s.cartBanked := by
  simp [push16]
@[simp] theorem push16_timaAcc (w : Word) (s : State) : (push16 w s).timaAcc = s.timaAcc := by
  simp [push16]
@[simp] theorem push16_ppuMode (w : Word) (s : State) : (push16 w s).ppuMode = s.ppuMode := by
  simp [push16]
@[simp] theorem push16_modeClock (w : Word) (s : State) : (push16 w s).modeClock = s.modeClock := by
  simp [push16]
@[simp] theorem push16_ly (w : Word) (s : State) : (push16 w s).ly = s.ly := by
  simp [push16]
@[simp] theorem push16_frame (w : Word) (s : State) : (push16 w s).frame = s.frame := by
  simp [push16]
@[simp] theorem push16_dirRow (w : Word) (s : State) : (push16 w s).dirRow = s.dirRow := by
  simp [push16]
@[simp] theorem push16_actRow (w : Word) (s : State) : (push16 w s).actRow = s.actRow := by
  simp [push16]
@[simp] theorem push16_haltWakeNeedsIe (w : Word) (s : State) : (push16 w s).haltWakeNeedsIe = s.haltWakeNeedsIe := by
  simp [push16]
@[simp] theorem push16_hostEvents (w : Word) (s : State) : (push16 w s).hostEvents = s.hostEvents := by
  simp [push16]

@[simp] theorem push16_sp (w : Word) (s : State) : (push16 w s).sp = s.sp - 1 - 1 := by
  simp [push16]

/-! ## The storage arrays -/

/-- What an address in an array reaches lies inside the array. -/
theorem busTarget_vram_lt {s : State} {addr : Word} {i : Nat} (h : busTarget s addr = .vram i) : i < Config.vramSize := by
  revert h
  simp only [busTarget, eramTarget, Config.vramSize]
  (repeat' split) <;> intro h <;>
    first
    | (simp only [reduceCtorEq] at h)
    | (rw [BusTarget.vram.injEq] at h; omega)

theorem busTarget_wram_lt {s : State} {addr : Word} {i : Nat} (h : busTarget s addr = .wram i) : i < Config.wramSize := by
  revert h
  simp only [busTarget, eramTarget, Config.wramSize]
  (repeat' split) <;> intro h <;>
    first
    | (simp only [reduceCtorEq] at h)
    | (rw [BusTarget.wram.injEq] at h; omega)

theorem busTarget_oam_lt {s : State} {addr : Word} {i : Nat} (h : busTarget s addr = .oam i) : i < Config.oamSize := by
  revert h
  simp only [busTarget, eramTarget, Config.oamSize]
  (repeat' split) <;> intro h <;>
    first
    | (simp only [reduceCtorEq] at h)
    | (rw [BusTarget.oam.injEq] at h; omega)

theorem busTarget_hram_lt {s : State} {addr : Word} {i : Nat} (h : busTarget s addr = .hram i) : i < Config.hramSize := by
  revert h
  simp only [busTarget, eramTarget, Config.hramSize]
  (repeat' split) <;> intro h <;>
    first
    | (simp only [reduceCtorEq] at h)
    | (rw [BusTarget.hram.injEq] at h; omega)

theorem busTarget_eram_lt {s : State} {addr : Word} {i : Nat} (h : busTarget s addr = .eram i) :
    i < (if s.cartBanked then Config.eramBankedSize else Config.eramUnbankedSize) := by
  revert h
  have hb := s.ramBank.isLt
  unfold Config.eramBankedSize Config.eramUnbankedSize busTarget eramTarget Config.ramBankSize
  dsimp only
  (repeat' split) <;> intro h <;>
    first
    | (simp only [reduceCtorEq] at h)
    | (rw [BusTarget.eram.injEq] at h; omega)

theorem dmaFold_storage (v : Byte) : ∀ (is : List Nat) (s : State), (∀ i ∈ is, i < Config.oamSize) → StorageLegal s →
    StorageLegal (is.foldl (dmaByte v) s)
  | [], _, _, h => h
  | i :: is, s, hi, h => by
    refine dmaFold_storage v is (dmaByte v s i) (fun j hj => hi j (List.mem_cons_of_mem _ hj)) ?_
    exact { h with
      oamWf := Memory.wf_write _ _ h.oamWf
      oamWithin := Memory.within_write (hi i List.mem_cons_self) h.oamWithin }

theorem oamDma_storage (v : Byte) {s : State} (h : StorageLegal s) : StorageLegal (oamDma v s) :=
  dmaFold_storage v _ s (fun _ hi => List.mem_range.mp hi) h

/-- The legality of the storage arrays depends on nothing else. -/
theorem StorageLegal.congr {s t : State} (h : StorageLegal s) (rom : t.rom = s.rom) (romSize : t.romSize = s.romSize)
    (boot : t.boot = s.boot) (vram : t.vram = s.vram) (eram : t.eram = s.eram) (cart : t.cartBanked = s.cartBanked)
    (wram : t.wram = s.wram) (oam : t.oam = s.oam) (hram : t.hram = s.hram) : StorageLegal t where
  romWf := rom ▸ h.romWf
  romWithin := rom ▸ romSize ▸ h.romWithin
  romSizeOk := romSize ▸ h.romSizeOk
  bootLegal := fun m hm => h.bootLegal m (boot ▸ hm)
  vramWf := vram ▸ h.vramWf
  vramWithin := vram ▸ h.vramWithin
  eramWf := eram ▸ h.eramWf
  eramWithin := by rw [eram, cart]; exact h.eramWithin
  wramWf := wram ▸ h.wramWf
  wramWithin := wram ▸ h.wramWithin
  oamWf := oam ▸ h.oamWf
  oamWithin := oam ▸ h.oamWithin
  hramWf := hram ▸ h.hramWf
  hramWithin := hram ▸ h.hramWithin

theorem cartWrite_storage (addr : Word) (v : Byte) {s : State} (h : StorageLegal s) : StorageLegal (cartWrite addr v s) := by
  apply h.congr <;> simp

theorem writeIo_storage (r : IoReg) (v : Byte) {s : State} (h : StorageLegal s) : StorageLegal (writeIo r v s) := by
  apply writeIo_cases (P := StorageLegal)
  case dma => exact oamDma_storage v (h.congr rfl rfl rfl rfl rfl rfl rfl rfl rfl)
  case lyc => apply h.congr <;> simp
  all_goals exact h.congr rfl rfl rfl rfl rfl rfl rfl rfl rfl

/-- A bus write keeps every storage array canonical and inside its size. -/
theorem memWrite_storage (addr : Word) (v : Byte) {s : State} (h : StorageLegal s) : StorageLegal (memWrite s addr v) := by
  apply memWrite_cases (P := StorageLegal)
  case same => exact h
  case cart => exact cartWrite_storage addr v h
  case vram => exact fun i hi => { h with
    vramWf := Memory.wf_write _ _ h.vramWf, vramWithin := Memory.within_write (busTarget_vram_lt hi) h.vramWithin }
  case eram => exact fun i hi => { h with
    eramWf := Memory.wf_write _ _ h.eramWf, eramWithin := Memory.within_write (busTarget_eram_lt hi) h.eramWithin }
  case wram => exact fun i hi => { h with
    wramWf := Memory.wf_write _ _ h.wramWf, wramWithin := Memory.within_write (busTarget_wram_lt hi) h.wramWithin }
  case oam => exact fun i hi => { h with
    oamWf := Memory.wf_write _ _ h.oamWf, oamWithin := Memory.within_write (busTarget_oam_lt hi) h.oamWithin }
  case hram => exact fun i hi => { h with
    hramWf := Memory.wf_write _ _ h.hramWf, hramWithin := Memory.within_write (busTarget_hram_lt hi) h.hramWithin }
  case io => exact fun r _ => writeIo_storage r v h
  case ie => exact h.congr rfl rfl rfl rfl rfl rfl rfl rfl rfl

end Sys2Proof.Machine
end

