-- ==== Sys2Proof/Laws/Devices.lean ====
section
/-! SUPPORT. The devices: what the pixel processor and the timer leave unchanged, the loop of the mode machine, and the timer's
increments. -/

namespace Sys2Proof.Machine

/-! ## The fields the pixel processor leaves -/

@[simp] theorem ppuTransition_a (s : State) : (ppuTransition s).a = s.a := by
  unfold ppuTransition leaveOamScan leaveDrawLine leaveHblank leaveVblank
  cases s.ppuMode <;> dsimp only <;> (repeat' split) <;> simp

@[simp] theorem ppuLoop_a (fuel : Nat) (s : State) : (ppuLoop fuel s).a = s.a := by
  induction fuel generalizing s with
  | zero => rfl
  | succ fuel ih => simp only [ppuLoop]; split <;> simp [ih]

@[simp] theorem ppuStep_a (cyc : Nat) (s : State) : (ppuStep cyc s).a = s.a := by
  unfold ppuStep; split <;> simp

@[simp] theorem ppuTransition_f (s : State) : (ppuTransition s).f = s.f := by
  unfold ppuTransition leaveOamScan leaveDrawLine leaveHblank leaveVblank
  cases s.ppuMode <;> dsimp only <;> (repeat' split) <;> simp

@[simp] theorem ppuLoop_f (fuel : Nat) (s : State) : (ppuLoop fuel s).f = s.f := by
  induction fuel generalizing s with
  | zero => rfl
  | succ fuel ih => simp only [ppuLoop]; split <;> simp [ih]

@[simp] theorem ppuStep_f (cyc : Nat) (s : State) : (ppuStep cyc s).f = s.f := by
  unfold ppuStep; split <;> simp

@[simp] theorem ppuTransition_b (s : State) : (ppuTransition s).b = s.b := by
  unfold ppuTransition leaveOamScan leaveDrawLine leaveHblank leaveVblank
  cases s.ppuMode <;> dsimp only <;> (repeat' split) <;> simp

@[simp] theorem ppuLoop_b (fuel : Nat) (s : State) : (ppuLoop fuel s).b = s.b := by
  induction fuel generalizing s with
  | zero => rfl
  | succ fuel ih => simp only [ppuLoop]; split <;> simp [ih]

@[simp] theorem ppuStep_b (cyc : Nat) (s : State) : (ppuStep cyc s).b = s.b := by
  unfold ppuStep; split <;> simp

@[simp] theorem ppuTransition_c (s : State) : (ppuTransition s).c = s.c := by
  unfold ppuTransition leaveOamScan leaveDrawLine leaveHblank leaveVblank
  cases s.ppuMode <;> dsimp only <;> (repeat' split) <;> simp

@[simp] theorem ppuLoop_c (fuel : Nat) (s : State) : (ppuLoop fuel s).c = s.c := by
  induction fuel generalizing s with
  | zero => rfl
  | succ fuel ih => simp only [ppuLoop]; split <;> simp [ih]

@[simp] theorem ppuStep_c (cyc : Nat) (s : State) : (ppuStep cyc s).c = s.c := by
  unfold ppuStep; split <;> simp

@[simp] theorem ppuTransition_d (s : State) : (ppuTransition s).d = s.d := by
  unfold ppuTransition leaveOamScan leaveDrawLine leaveHblank leaveVblank
  cases s.ppuMode <;> dsimp only <;> (repeat' split) <;> simp

@[simp] theorem ppuLoop_d (fuel : Nat) (s : State) : (ppuLoop fuel s).d = s.d := by
  induction fuel generalizing s with
  | zero => rfl
  | succ fuel ih => simp only [ppuLoop]; split <;> simp [ih]

@[simp] theorem ppuStep_d (cyc : Nat) (s : State) : (ppuStep cyc s).d = s.d := by
  unfold ppuStep; split <;> simp

@[simp] theorem ppuTransition_e (s : State) : (ppuTransition s).e = s.e := by
  unfold ppuTransition leaveOamScan leaveDrawLine leaveHblank leaveVblank
  cases s.ppuMode <;> dsimp only <;> (repeat' split) <;> simp

@[simp] theorem ppuLoop_e (fuel : Nat) (s : State) : (ppuLoop fuel s).e = s.e := by
  induction fuel generalizing s with
  | zero => rfl
  | succ fuel ih => simp only [ppuLoop]; split <;> simp [ih]

@[simp] theorem ppuStep_e (cyc : Nat) (s : State) : (ppuStep cyc s).e = s.e := by
  unfold ppuStep; split <;> simp

@[simp] theorem ppuTransition_h (s : State) : (ppuTransition s).h = s.h := by
  unfold ppuTransition leaveOamScan leaveDrawLine leaveHblank leaveVblank
  cases s.ppuMode <;> dsimp only <;> (repeat' split) <;> simp

@[simp] theorem ppuLoop_h (fuel : Nat) (s : State) : (ppuLoop fuel s).h = s.h := by
  induction fuel generalizing s with
  | zero => rfl
  | succ fuel ih => simp only [ppuLoop]; split <;> simp [ih]

@[simp] theorem ppuStep_h (cyc : Nat) (s : State) : (ppuStep cyc s).h = s.h := by
  unfold ppuStep; split <;> simp

@[simp] theorem ppuTransition_l (s : State) : (ppuTransition s).l = s.l := by
  unfold ppuTransition leaveOamScan leaveDrawLine leaveHblank leaveVblank
  cases s.ppuMode <;> dsimp only <;> (repeat' split) <;> simp

@[simp] theorem ppuLoop_l (fuel : Nat) (s : State) : (ppuLoop fuel s).l = s.l := by
  induction fuel generalizing s with
  | zero => rfl
  | succ fuel ih => simp only [ppuLoop]; split <;> simp [ih]

@[simp] theorem ppuStep_l (cyc : Nat) (s : State) : (ppuStep cyc s).l = s.l := by
  unfold ppuStep; split <;> simp

@[simp] theorem ppuTransition_sp (s : State) : (ppuTransition s).sp = s.sp := by
  unfold ppuTransition leaveOamScan leaveDrawLine leaveHblank leaveVblank
  cases s.ppuMode <;> dsimp only <;> (repeat' split) <;> simp

@[simp] theorem ppuLoop_sp (fuel : Nat) (s : State) : (ppuLoop fuel s).sp = s.sp := by
  induction fuel generalizing s with
  | zero => rfl
  | succ fuel ih => simp only [ppuLoop]; split <;> simp [ih]

@[simp] theorem ppuStep_sp (cyc : Nat) (s : State) : (ppuStep cyc s).sp = s.sp := by
  unfold ppuStep; split <;> simp

@[simp] theorem ppuTransition_pc (s : State) : (ppuTransition s).pc = s.pc := by
  unfold ppuTransition leaveOamScan leaveDrawLine leaveHblank leaveVblank
  cases s.ppuMode <;> dsimp only <;> (repeat' split) <;> simp

@[simp] theorem ppuLoop_pc (fuel : Nat) (s : State) : (ppuLoop fuel s).pc = s.pc := by
  induction fuel generalizing s with
  | zero => rfl
  | succ fuel ih => simp only [ppuLoop]; split <;> simp [ih]

@[simp] theorem ppuStep_pc (cyc : Nat) (s : State) : (ppuStep cyc s).pc = s.pc := by
  unfold ppuStep; split <;> simp

@[simp] theorem ppuTransition_cpuMode (s : State) : (ppuTransition s).cpuMode = s.cpuMode := by
  unfold ppuTransition leaveOamScan leaveDrawLine leaveHblank leaveVblank
  cases s.ppuMode <;> dsimp only <;> (repeat' split) <;> simp

@[simp] theorem ppuLoop_cpuMode (fuel : Nat) (s : State) : (ppuLoop fuel s).cpuMode = s.cpuMode := by
  induction fuel generalizing s with
  | zero => rfl
  | succ fuel ih => simp only [ppuLoop]; split <;> simp [ih]

@[simp] theorem ppuStep_cpuMode (cyc : Nat) (s : State) : (ppuStep cyc s).cpuMode = s.cpuMode := by
  unfold ppuStep; split <;> simp

@[simp] theorem ppuTransition_ime (s : State) : (ppuTransition s).ime = s.ime := by
  unfold ppuTransition leaveOamScan leaveDrawLine leaveHblank leaveVblank
  cases s.ppuMode <;> dsimp only <;> (repeat' split) <;> simp

@[simp] theorem ppuLoop_ime (fuel : Nat) (s : State) : (ppuLoop fuel s).ime = s.ime := by
  induction fuel generalizing s with
  | zero => rfl
  | succ fuel ih => simp only [ppuLoop]; split <;> simp [ih]

@[simp] theorem ppuStep_ime (cyc : Nat) (s : State) : (ppuStep cyc s).ime = s.ime := by
  unfold ppuStep; split <;> simp

@[simp] theorem ppuTransition_eiPending (s : State) : (ppuTransition s).eiPending = s.eiPending := by
  unfold ppuTransition leaveOamScan leaveDrawLine leaveHblank leaveVblank
  cases s.ppuMode <;> dsimp only <;> (repeat' split) <;> simp

@[simp] theorem ppuLoop_eiPending (fuel : Nat) (s : State) : (ppuLoop fuel s).eiPending = s.eiPending := by
  induction fuel generalizing s with
  | zero => rfl
  | succ fuel ih => simp only [ppuLoop]; split <;> simp [ih]

@[simp] theorem ppuStep_eiPending (cyc : Nat) (s : State) : (ppuStep cyc s).eiPending = s.eiPending := by
  unfold ppuStep; split <;> simp

@[simp] theorem ppuTransition_cycles (s : State) : (ppuTransition s).cycles = s.cycles := by
  unfold ppuTransition leaveOamScan leaveDrawLine leaveHblank leaveVblank
  cases s.ppuMode <;> dsimp only <;> (repeat' split) <;> simp

@[simp] theorem ppuLoop_cycles (fuel : Nat) (s : State) : (ppuLoop fuel s).cycles = s.cycles := by
  induction fuel generalizing s with
  | zero => rfl
  | succ fuel ih => simp only [ppuLoop]; split <;> simp [ih]

@[simp] theorem ppuStep_cycles (cyc : Nat) (s : State) : (ppuStep cyc s).cycles = s.cycles := by
  unfold ppuStep; split <;> simp

@[simp] theorem ppuTransition_rom (s : State) : (ppuTransition s).rom = s.rom := by
  unfold ppuTransition leaveOamScan leaveDrawLine leaveHblank leaveVblank
  cases s.ppuMode <;> dsimp only <;> (repeat' split) <;> simp

@[simp] theorem ppuLoop_rom (fuel : Nat) (s : State) : (ppuLoop fuel s).rom = s.rom := by
  induction fuel generalizing s with
  | zero => rfl
  | succ fuel ih => simp only [ppuLoop]; split <;> simp [ih]

@[simp] theorem ppuStep_rom (cyc : Nat) (s : State) : (ppuStep cyc s).rom = s.rom := by
  unfold ppuStep; split <;> simp

@[simp] theorem ppuTransition_romSize (s : State) : (ppuTransition s).romSize = s.romSize := by
  unfold ppuTransition leaveOamScan leaveDrawLine leaveHblank leaveVblank
  cases s.ppuMode <;> dsimp only <;> (repeat' split) <;> simp

@[simp] theorem ppuLoop_romSize (fuel : Nat) (s : State) : (ppuLoop fuel s).romSize = s.romSize := by
  induction fuel generalizing s with
  | zero => rfl
  | succ fuel ih => simp only [ppuLoop]; split <;> simp [ih]

@[simp] theorem ppuStep_romSize (cyc : Nat) (s : State) : (ppuStep cyc s).romSize = s.romSize := by
  unfold ppuStep; split <;> simp

@[simp] theorem ppuTransition_boot (s : State) : (ppuTransition s).boot = s.boot := by
  unfold ppuTransition leaveOamScan leaveDrawLine leaveHblank leaveVblank
  cases s.ppuMode <;> dsimp only <;> (repeat' split) <;> simp

@[simp] theorem ppuLoop_boot (fuel : Nat) (s : State) : (ppuLoop fuel s).boot = s.boot := by
  induction fuel generalizing s with
  | zero => rfl
  | succ fuel ih => simp only [ppuLoop]; split <;> simp [ih]

@[simp] theorem ppuStep_boot (cyc : Nat) (s : State) : (ppuStep cyc s).boot = s.boot := by
  unfold ppuStep; split <;> simp

@[simp] theorem ppuTransition_vram (s : State) : (ppuTransition s).vram = s.vram := by
  unfold ppuTransition leaveOamScan leaveDrawLine leaveHblank leaveVblank
  cases s.ppuMode <;> dsimp only <;> (repeat' split) <;> simp

@[simp] theorem ppuLoop_vram (fuel : Nat) (s : State) : (ppuLoop fuel s).vram = s.vram := by
  induction fuel generalizing s with
  | zero => rfl
  | succ fuel ih => simp only [ppuLoop]; split <;> simp [ih]

@[simp] theorem ppuStep_vram (cyc : Nat) (s : State) : (ppuStep cyc s).vram = s.vram := by
  unfold ppuStep; split <;> simp

@[simp] theorem ppuTransition_eram (s : State) : (ppuTransition s).eram = s.eram := by
  unfold ppuTransition leaveOamScan leaveDrawLine leaveHblank leaveVblank
  cases s.ppuMode <;> dsimp only <;> (repeat' split) <;> simp

@[simp] theorem ppuLoop_eram (fuel : Nat) (s : State) : (ppuLoop fuel s).eram = s.eram := by
  induction fuel generalizing s with
  | zero => rfl
  | succ fuel ih => simp only [ppuLoop]; split <;> simp [ih]

@[simp] theorem ppuStep_eram (cyc : Nat) (s : State) : (ppuStep cyc s).eram = s.eram := by
  unfold ppuStep; split <;> simp

@[simp] theorem ppuTransition_wram (s : State) : (ppuTransition s).wram = s.wram := by
  unfold ppuTransition leaveOamScan leaveDrawLine leaveHblank leaveVblank
  cases s.ppuMode <;> dsimp only <;> (repeat' split) <;> simp

@[simp] theorem ppuLoop_wram (fuel : Nat) (s : State) : (ppuLoop fuel s).wram = s.wram := by
  induction fuel generalizing s with
  | zero => rfl
  | succ fuel ih => simp only [ppuLoop]; split <;> simp [ih]

@[simp] theorem ppuStep_wram (cyc : Nat) (s : State) : (ppuStep cyc s).wram = s.wram := by
  unfold ppuStep; split <;> simp

@[simp] theorem ppuTransition_oam (s : State) : (ppuTransition s).oam = s.oam := by
  unfold ppuTransition leaveOamScan leaveDrawLine leaveHblank leaveVblank
  cases s.ppuMode <;> dsimp only <;> (repeat' split) <;> simp

@[simp] theorem ppuLoop_oam (fuel : Nat) (s : State) : (ppuLoop fuel s).oam = s.oam := by
  induction fuel generalizing s with
  | zero => rfl
  | succ fuel ih => simp only [ppuLoop]; split <;> simp [ih]

@[simp] theorem ppuStep_oam (cyc : Nat) (s : State) : (ppuStep cyc s).oam = s.oam := by
  unfold ppuStep; split <;> simp

@[simp] theorem ppuTransition_hram (s : State) : (ppuTransition s).hram = s.hram := by
  unfold ppuTransition leaveOamScan leaveDrawLine leaveHblank leaveVblank
  cases s.ppuMode <;> dsimp only <;> (repeat' split) <;> simp

@[simp] theorem ppuLoop_hram (fuel : Nat) (s : State) : (ppuLoop fuel s).hram = s.hram := by
  induction fuel generalizing s with
  | zero => rfl
  | succ fuel ih => simp only [ppuLoop]; split <;> simp [ih]

@[simp] theorem ppuStep_hram (cyc : Nat) (s : State) : (ppuStep cyc s).hram = s.hram := by
  unfold ppuStep; split <;> simp

@[simp] theorem ppuTransition_romBank (s : State) : (ppuTransition s).romBank = s.romBank := by
  unfold ppuTransition leaveOamScan leaveDrawLine leaveHblank leaveVblank
  cases s.ppuMode <;> dsimp only <;> (repeat' split) <;> simp

@[simp] theorem ppuLoop_romBank (fuel : Nat) (s : State) : (ppuLoop fuel s).romBank = s.romBank := by
  induction fuel generalizing s with
  | zero => rfl
  | succ fuel ih => simp only [ppuLoop]; split <;> simp [ih]

@[simp] theorem ppuStep_romBank (cyc : Nat) (s : State) : (ppuStep cyc s).romBank = s.romBank := by
  unfold ppuStep; split <;> simp

@[simp] theorem ppuTransition_ramBank (s : State) : (ppuTransition s).ramBank = s.ramBank := by
  unfold ppuTransition leaveOamScan leaveDrawLine leaveHblank leaveVblank
  cases s.ppuMode <;> dsimp only <;> (repeat' split) <;> simp

@[simp] theorem ppuLoop_ramBank (fuel : Nat) (s : State) : (ppuLoop fuel s).ramBank = s.ramBank := by
  induction fuel generalizing s with
  | zero => rfl
  | succ fuel ih => simp only [ppuLoop]; split <;> simp [ih]

@[simp] theorem ppuStep_ramBank (cyc : Nat) (s : State) : (ppuStep cyc s).ramBank = s.ramBank := by
  unfold ppuStep; split <;> simp

@[simp] theorem ppuTransition_ramEnabled (s : State) : (ppuTransition s).ramEnabled = s.ramEnabled := by
  unfold ppuTransition leaveOamScan leaveDrawLine leaveHblank leaveVblank
  cases s.ppuMode <;> dsimp only <;> (repeat' split) <;> simp

@[simp] theorem ppuLoop_ramEnabled (fuel : Nat) (s : State) : (ppuLoop fuel s).ramEnabled = s.ramEnabled := by
  induction fuel generalizing s with
  | zero => rfl
  | succ fuel ih => simp only [ppuLoop]; split <;> simp [ih]

@[simp] theorem ppuStep_ramEnabled (cyc : Nat) (s : State) : (ppuStep cyc s).ramEnabled = s.ramEnabled := by
  unfold ppuStep; split <;> simp

@[simp] theorem ppuTransition_bankingMode (s : State) : (ppuTransition s).bankingMode = s.bankingMode := by
  unfold ppuTransition leaveOamScan leaveDrawLine leaveHblank leaveVblank
  cases s.ppuMode <;> dsimp only <;> (repeat' split) <;> simp

@[simp] theorem ppuLoop_bankingMode (fuel : Nat) (s : State) : (ppuLoop fuel s).bankingMode = s.bankingMode := by
  induction fuel generalizing s with
  | zero => rfl
  | succ fuel ih => simp only [ppuLoop]; split <;> simp [ih]

@[simp] theorem ppuStep_bankingMode (cyc : Nat) (s : State) : (ppuStep cyc s).bankingMode = s.bankingMode := by
  unfold ppuStep; split <;> simp

@[simp] theorem ppuTransition_cartBanked (s : State) : (ppuTransition s).cartBanked = s.cartBanked := by
  unfold ppuTransition leaveOamScan leaveDrawLine leaveHblank leaveVblank
  cases s.ppuMode <;> dsimp only <;> (repeat' split) <;> simp

@[simp] theorem ppuLoop_cartBanked (fuel : Nat) (s : State) : (ppuLoop fuel s).cartBanked = s.cartBanked := by
  induction fuel generalizing s with
  | zero => rfl
  | succ fuel ih => simp only [ppuLoop]; split <;> simp [ih]

@[simp] theorem ppuStep_cartBanked (cyc : Nat) (s : State) : (ppuStep cyc s).cartBanked = s.cartBanked := by
  unfold ppuStep; split <;> simp

@[simp] theorem ppuTransition_bootMapped (s : State) : (ppuTransition s).bootMapped = s.bootMapped := by
  unfold ppuTransition leaveOamScan leaveDrawLine leaveHblank leaveVblank
  cases s.ppuMode <;> dsimp only <;> (repeat' split) <;> simp

@[simp] theorem ppuLoop_bootMapped (fuel : Nat) (s : State) : (ppuLoop fuel s).bootMapped = s.bootMapped := by
  induction fuel generalizing s with
  | zero => rfl
  | succ fuel ih => simp only [ppuLoop]; split <;> simp [ih]

@[simp] theorem ppuStep_bootMapped (cyc : Nat) (s : State) : (ppuStep cyc s).bootMapped = s.bootMapped := by
  unfold ppuStep; split <;> simp

@[simp] theorem ppuTransition_dmaLast (s : State) : (ppuTransition s).dmaLast = s.dmaLast := by
  unfold ppuTransition leaveOamScan leaveDrawLine leaveHblank leaveVblank
  cases s.ppuMode <;> dsimp only <;> (repeat' split) <;> simp

@[simp] theorem ppuLoop_dmaLast (fuel : Nat) (s : State) : (ppuLoop fuel s).dmaLast = s.dmaLast := by
  induction fuel generalizing s with
  | zero => rfl
  | succ fuel ih => simp only [ppuLoop]; split <;> simp [ih]

@[simp] theorem ppuStep_dmaLast (cyc : Nat) (s : State) : (ppuStep cyc s).dmaLast = s.dmaLast := by
  unfold ppuStep; split <;> simp

@[simp] theorem ppuTransition_ieReg (s : State) : (ppuTransition s).ieReg = s.ieReg := by
  unfold ppuTransition leaveOamScan leaveDrawLine leaveHblank leaveVblank
  cases s.ppuMode <;> dsimp only <;> (repeat' split) <;> simp

@[simp] theorem ppuLoop_ieReg (fuel : Nat) (s : State) : (ppuLoop fuel s).ieReg = s.ieReg := by
  induction fuel generalizing s with
  | zero => rfl
  | succ fuel ih => simp only [ppuLoop]; split <;> simp [ih]

@[simp] theorem ppuStep_ieReg (cyc : Nat) (s : State) : (ppuStep cyc s).ieReg = s.ieReg := by
  unfold ppuStep; split <;> simp

@[simp] theorem ppuTransition_div (s : State) : (ppuTransition s).div = s.div := by
  unfold ppuTransition leaveOamScan leaveDrawLine leaveHblank leaveVblank
  cases s.ppuMode <;> dsimp only <;> (repeat' split) <;> simp

@[simp] theorem ppuLoop_div (fuel : Nat) (s : State) : (ppuLoop fuel s).div = s.div := by
  induction fuel generalizing s with
  | zero => rfl
  | succ fuel ih => simp only [ppuLoop]; split <;> simp [ih]

@[simp] theorem ppuStep_div (cyc : Nat) (s : State) : (ppuStep cyc s).div = s.div := by
  unfold ppuStep; split <;> simp

@[simp] theorem ppuTransition_divAcc (s : State) : (ppuTransition s).divAcc = s.divAcc := by
  unfold ppuTransition leaveOamScan leaveDrawLine leaveHblank leaveVblank
  cases s.ppuMode <;> dsimp only <;> (repeat' split) <;> simp

@[simp] theorem ppuLoop_divAcc (fuel : Nat) (s : State) : (ppuLoop fuel s).divAcc = s.divAcc := by
  induction fuel generalizing s with
  | zero => rfl
  | succ fuel ih => simp only [ppuLoop]; split <;> simp [ih]

@[simp] theorem ppuStep_divAcc (cyc : Nat) (s : State) : (ppuStep cyc s).divAcc = s.divAcc := by
  unfold ppuStep; split <;> simp

@[simp] theorem ppuTransition_tima (s : State) : (ppuTransition s).tima = s.tima := by
  unfold ppuTransition leaveOamScan leaveDrawLine leaveHblank leaveVblank
  cases s.ppuMode <;> dsimp only <;> (repeat' split) <;> simp

@[simp] theorem ppuLoop_tima (fuel : Nat) (s : State) : (ppuLoop fuel s).tima = s.tima := by
  induction fuel generalizing s with
  | zero => rfl
  | succ fuel ih => simp only [ppuLoop]; split <;> simp [ih]

@[simp] theorem ppuStep_tima (cyc : Nat) (s : State) : (ppuStep cyc s).tima = s.tima := by
  unfold ppuStep; split <;> simp

@[simp] theorem ppuTransition_tma (s : State) : (ppuTransition s).tma = s.tma := by
  unfold ppuTransition leaveOamScan leaveDrawLine leaveHblank leaveVblank
  cases s.ppuMode <;> dsimp only <;> (repeat' split) <;> simp

@[simp] theorem ppuLoop_tma (fuel : Nat) (s : State) : (ppuLoop fuel s).tma = s.tma := by
  induction fuel generalizing s with
  | zero => rfl
  | succ fuel ih => simp only [ppuLoop]; split <;> simp [ih]

@[simp] theorem ppuStep_tma (cyc : Nat) (s : State) : (ppuStep cyc s).tma = s.tma := by
  unfold ppuStep; split <;> simp

@[simp] theorem ppuTransition_tac (s : State) : (ppuTransition s).tac = s.tac := by
  unfold ppuTransition leaveOamScan leaveDrawLine leaveHblank leaveVblank
  cases s.ppuMode <;> dsimp only <;> (repeat' split) <;> simp

@[simp] theorem ppuLoop_tac (fuel : Nat) (s : State) : (ppuLoop fuel s).tac = s.tac := by
  induction fuel generalizing s with
  | zero => rfl
  | succ fuel ih => simp only [ppuLoop]; split <;> simp [ih]

@[simp] theorem ppuStep_tac (cyc : Nat) (s : State) : (ppuStep cyc s).tac = s.tac := by
  unfold ppuStep; split <;> simp

@[simp] theorem ppuTransition_timaAcc (s : State) : (ppuTransition s).timaAcc = s.timaAcc := by
  unfold ppuTransition leaveOamScan leaveDrawLine leaveHblank leaveVblank
  cases s.ppuMode <;> dsimp only <;> (repeat' split) <;> simp

@[simp] theorem ppuLoop_timaAcc (fuel : Nat) (s : State) : (ppuLoop fuel s).timaAcc = s.timaAcc := by
  induction fuel generalizing s with
  | zero => rfl
  | succ fuel ih => simp only [ppuLoop]; split <;> simp [ih]

@[simp] theorem ppuStep_timaAcc (cyc : Nat) (s : State) : (ppuStep cyc s).timaAcc = s.timaAcc := by
  unfold ppuStep; split <;> simp

@[simp] theorem ppuTransition_lcdc (s : State) : (ppuTransition s).lcdc = s.lcdc := by
  unfold ppuTransition leaveOamScan leaveDrawLine leaveHblank leaveVblank
  cases s.ppuMode <;> dsimp only <;> (repeat' split) <;> simp

@[simp] theorem ppuLoop_lcdc (fuel : Nat) (s : State) : (ppuLoop fuel s).lcdc = s.lcdc := by
  induction fuel generalizing s with
  | zero => rfl
  | succ fuel ih => simp only [ppuLoop]; split <;> simp [ih]

@[simp] theorem ppuStep_lcdc (cyc : Nat) (s : State) : (ppuStep cyc s).lcdc = s.lcdc := by
  unfold ppuStep; split <;> simp

@[simp] theorem ppuTransition_statEn (s : State) : (ppuTransition s).statEn = s.statEn := by
  unfold ppuTransition leaveOamScan leaveDrawLine leaveHblank leaveVblank
  cases s.ppuMode <;> dsimp only <;> (repeat' split) <;> simp

@[simp] theorem ppuLoop_statEn (fuel : Nat) (s : State) : (ppuLoop fuel s).statEn = s.statEn := by
  induction fuel generalizing s with
  | zero => rfl
  | succ fuel ih => simp only [ppuLoop]; split <;> simp [ih]

@[simp] theorem ppuStep_statEn (cyc : Nat) (s : State) : (ppuStep cyc s).statEn = s.statEn := by
  unfold ppuStep; split <;> simp

@[simp] theorem ppuTransition_lyc (s : State) : (ppuTransition s).lyc = s.lyc := by
  unfold ppuTransition leaveOamScan leaveDrawLine leaveHblank leaveVblank
  cases s.ppuMode <;> dsimp only <;> (repeat' split) <;> simp

@[simp] theorem ppuLoop_lyc (fuel : Nat) (s : State) : (ppuLoop fuel s).lyc = s.lyc := by
  induction fuel generalizing s with
  | zero => rfl
  | succ fuel ih => simp only [ppuLoop]; split <;> simp [ih]

@[simp] theorem ppuStep_lyc (cyc : Nat) (s : State) : (ppuStep cyc s).lyc = s.lyc := by
  unfold ppuStep; split <;> simp

@[simp] theorem ppuTransition_scy (s : State) : (ppuTransition s).scy = s.scy := by
  unfold ppuTransition leaveOamScan leaveDrawLine leaveHblank leaveVblank
  cases s.ppuMode <;> dsimp only <;> (repeat' split) <;> simp

@[simp] theorem ppuLoop_scy (fuel : Nat) (s : State) : (ppuLoop fuel s).scy = s.scy := by
  induction fuel generalizing s with
  | zero => rfl
  | succ fuel ih => simp only [ppuLoop]; split <;> simp [ih]

@[simp] theorem ppuStep_scy (cyc : Nat) (s : State) : (ppuStep cyc s).scy = s.scy := by
  unfold ppuStep; split <;> simp

@[simp] theorem ppuTransition_scx (s : State) : (ppuTransition s).scx = s.scx := by
  unfold ppuTransition leaveOamScan leaveDrawLine leaveHblank leaveVblank
  cases s.ppuMode <;> dsimp only <;> (repeat' split) <;> simp

@[simp] theorem ppuLoop_scx (fuel : Nat) (s : State) : (ppuLoop fuel s).scx = s.scx := by
  induction fuel generalizing s with
  | zero => rfl
  | succ fuel ih => simp only [ppuLoop]; split <;> simp [ih]

@[simp] theorem ppuStep_scx (cyc : Nat) (s : State) : (ppuStep cyc s).scx = s.scx := by
  unfold ppuStep; split <;> simp

@[simp] theorem ppuTransition_bgp (s : State) : (ppuTransition s).bgp = s.bgp := by
  unfold ppuTransition leaveOamScan leaveDrawLine leaveHblank leaveVblank
  cases s.ppuMode <;> dsimp only <;> (repeat' split) <;> simp

@[simp] theorem ppuLoop_bgp (fuel : Nat) (s : State) : (ppuLoop fuel s).bgp = s.bgp := by
  induction fuel generalizing s with
  | zero => rfl
  | succ fuel ih => simp only [ppuLoop]; split <;> simp [ih]

@[simp] theorem ppuStep_bgp (cyc : Nat) (s : State) : (ppuStep cyc s).bgp = s.bgp := by
  unfold ppuStep; split <;> simp

@[simp] theorem ppuTransition_obp0 (s : State) : (ppuTransition s).obp0 = s.obp0 := by
  unfold ppuTransition leaveOamScan leaveDrawLine leaveHblank leaveVblank
  cases s.ppuMode <;> dsimp only <;> (repeat' split) <;> simp

@[simp] theorem ppuLoop_obp0 (fuel : Nat) (s : State) : (ppuLoop fuel s).obp0 = s.obp0 := by
  induction fuel generalizing s with
  | zero => rfl
  | succ fuel ih => simp only [ppuLoop]; split <;> simp [ih]

@[simp] theorem ppuStep_obp0 (cyc : Nat) (s : State) : (ppuStep cyc s).obp0 = s.obp0 := by
  unfold ppuStep; split <;> simp

@[simp] theorem ppuTransition_obp1 (s : State) : (ppuTransition s).obp1 = s.obp1 := by
  unfold ppuTransition leaveOamScan leaveDrawLine leaveHblank leaveVblank
  cases s.ppuMode <;> dsimp only <;> (repeat' split) <;> simp

@[simp] theorem ppuLoop_obp1 (fuel : Nat) (s : State) : (ppuLoop fuel s).obp1 = s.obp1 := by
  induction fuel generalizing s with
  | zero => rfl
  | succ fuel ih => simp only [ppuLoop]; split <;> simp [ih]

@[simp] theorem ppuStep_obp1 (cyc : Nat) (s : State) : (ppuStep cyc s).obp1 = s.obp1 := by
  unfold ppuStep; split <;> simp

@[simp] theorem ppuTransition_wy (s : State) : (ppuTransition s).wy = s.wy := by
  unfold ppuTransition leaveOamScan leaveDrawLine leaveHblank leaveVblank
  cases s.ppuMode <;> dsimp only <;> (repeat' split) <;> simp

@[simp] theorem ppuLoop_wy (fuel : Nat) (s : State) : (ppuLoop fuel s).wy = s.wy := by
  induction fuel generalizing s with
  | zero => rfl
  | succ fuel ih => simp only [ppuLoop]; split <;> simp [ih]

@[simp] theorem ppuStep_wy (cyc : Nat) (s : State) : (ppuStep cyc s).wy = s.wy := by
  unfold ppuStep; split <;> simp

@[simp] theorem ppuTransition_wx (s : State) : (ppuTransition s).wx = s.wx := by
  unfold ppuTransition leaveOamScan leaveDrawLine leaveHblank leaveVblank
  cases s.ppuMode <;> dsimp only <;> (repeat' split) <;> simp

@[simp] theorem ppuLoop_wx (fuel : Nat) (s : State) : (ppuLoop fuel s).wx = s.wx := by
  induction fuel generalizing s with
  | zero => rfl
  | succ fuel ih => simp only [ppuLoop]; split <;> simp [ih]

@[simp] theorem ppuStep_wx (cyc : Nat) (s : State) : (ppuStep cyc s).wx = s.wx := by
  unfold ppuStep; split <;> simp

@[simp] theorem ppuTransition_sel (s : State) : (ppuTransition s).sel = s.sel := by
  unfold ppuTransition leaveOamScan leaveDrawLine leaveHblank leaveVblank
  cases s.ppuMode <;> dsimp only <;> (repeat' split) <;> simp

@[simp] theorem ppuLoop_sel (fuel : Nat) (s : State) : (ppuLoop fuel s).sel = s.sel := by
  induction fuel generalizing s with
  | zero => rfl
  | succ fuel ih => simp only [ppuLoop]; split <;> simp [ih]

@[simp] theorem ppuStep_sel (cyc : Nat) (s : State) : (ppuStep cyc s).sel = s.sel := by
  unfold ppuStep; split <;> simp

@[simp] theorem ppuTransition_dirRow (s : State) : (ppuTransition s).dirRow = s.dirRow := by
  unfold ppuTransition leaveOamScan leaveDrawLine leaveHblank leaveVblank
  cases s.ppuMode <;> dsimp only <;> (repeat' split) <;> simp

@[simp] theorem ppuLoop_dirRow (fuel : Nat) (s : State) : (ppuLoop fuel s).dirRow = s.dirRow := by
  induction fuel generalizing s with
  | zero => rfl
  | succ fuel ih => simp only [ppuLoop]; split <;> simp [ih]

@[simp] theorem ppuStep_dirRow (cyc : Nat) (s : State) : (ppuStep cyc s).dirRow = s.dirRow := by
  unfold ppuStep; split <;> simp

@[simp] theorem ppuTransition_actRow (s : State) : (ppuTransition s).actRow = s.actRow := by
  unfold ppuTransition leaveOamScan leaveDrawLine leaveHblank leaveVblank
  cases s.ppuMode <;> dsimp only <;> (repeat' split) <;> simp

@[simp] theorem ppuLoop_actRow (fuel : Nat) (s : State) : (ppuLoop fuel s).actRow = s.actRow := by
  induction fuel generalizing s with
  | zero => rfl
  | succ fuel ih => simp only [ppuLoop]; split <;> simp [ih]

@[simp] theorem ppuStep_actRow (cyc : Nat) (s : State) : (ppuStep cyc s).actRow = s.actRow := by
  unfold ppuStep; split <;> simp

@[simp] theorem ppuTransition_haltWakeNeedsIe (s : State) : (ppuTransition s).haltWakeNeedsIe = s.haltWakeNeedsIe := by
  unfold ppuTransition leaveOamScan leaveDrawLine leaveHblank leaveVblank
  cases s.ppuMode <;> dsimp only <;> (repeat' split) <;> simp

@[simp] theorem ppuLoop_haltWakeNeedsIe (fuel : Nat) (s : State) : (ppuLoop fuel s).haltWakeNeedsIe = s.haltWakeNeedsIe := by
  induction fuel generalizing s with
  | zero => rfl
  | succ fuel ih => simp only [ppuLoop]; split <;> simp [ih]

@[simp] theorem ppuStep_haltWakeNeedsIe (cyc : Nat) (s : State) : (ppuStep cyc s).haltWakeNeedsIe = s.haltWakeNeedsIe := by
  unfold ppuStep; split <;> simp

@[simp] theorem ppuTransition_hostEvents (s : State) : (ppuTransition s).hostEvents = s.hostEvents := by
  unfold ppuTransition leaveOamScan leaveDrawLine leaveHblank leaveVblank
  cases s.ppuMode <;> dsimp only <;> (repeat' split) <;> simp

@[simp] theorem ppuLoop_hostEvents (fuel : Nat) (s : State) : (ppuLoop fuel s).hostEvents = s.hostEvents := by
  induction fuel generalizing s with
  | zero => rfl
  | succ fuel ih => simp only [ppuLoop]; split <;> simp [ih]

@[simp] theorem ppuStep_hostEvents (cyc : Nat) (s : State) : (ppuStep cyc s).hostEvents = s.hostEvents := by
  unfold ppuStep; split <;> simp

/-! ## The fields the timer leaves -/

@[simp] theorem timaIncrements_a (k : Nat) (s : State) : (timaIncrements k s).a = s.a := by
  induction k generalizing s with
  | zero => rfl
  | succ k ih => simp [timaIncrements, ih]

@[simp] theorem timaTick_a (cyc : Nat) (s : State) : (timaTick cyc s).a = s.a := by
  unfold timaTick; split <;> simp

@[simp] theorem timerTick_a (cyc : Nat) (s : State) : (timerTick cyc s).a = s.a := by
  simp [timerTick]

@[simp] theorem tickDevices_a (s : State) : (tickDevices s).a = s.a := by
  simp [tickDevices]

@[simp] theorem timaIncrements_f (k : Nat) (s : State) : (timaIncrements k s).f = s.f := by
  induction k generalizing s with
  | zero => rfl
  | succ k ih => simp [timaIncrements, ih]

@[simp] theorem timaTick_f (cyc : Nat) (s : State) : (timaTick cyc s).f = s.f := by
  unfold timaTick; split <;> simp

@[simp] theorem timerTick_f (cyc : Nat) (s : State) : (timerTick cyc s).f = s.f := by
  simp [timerTick]

@[simp] theorem tickDevices_f (s : State) : (tickDevices s).f = s.f := by
  simp [tickDevices]

@[simp] theorem timaIncrements_b (k : Nat) (s : State) : (timaIncrements k s).b = s.b := by
  induction k generalizing s with
  | zero => rfl
  | succ k ih => simp [timaIncrements, ih]

@[simp] theorem timaTick_b (cyc : Nat) (s : State) : (timaTick cyc s).b = s.b := by
  unfold timaTick; split <;> simp

@[simp] theorem timerTick_b (cyc : Nat) (s : State) : (timerTick cyc s).b = s.b := by
  simp [timerTick]

@[simp] theorem tickDevices_b (s : State) : (tickDevices s).b = s.b := by
  simp [tickDevices]

@[simp] theorem timaIncrements_c (k : Nat) (s : State) : (timaIncrements k s).c = s.c := by
  induction k generalizing s with
  | zero => rfl
  | succ k ih => simp [timaIncrements, ih]

@[simp] theorem timaTick_c (cyc : Nat) (s : State) : (timaTick cyc s).c = s.c := by
  unfold timaTick; split <;> simp

@[simp] theorem timerTick_c (cyc : Nat) (s : State) : (timerTick cyc s).c = s.c := by
  simp [timerTick]

@[simp] theorem tickDevices_c (s : State) : (tickDevices s).c = s.c := by
  simp [tickDevices]

@[simp] theorem timaIncrements_d (k : Nat) (s : State) : (timaIncrements k s).d = s.d := by
  induction k generalizing s with
  | zero => rfl
  | succ k ih => simp [timaIncrements, ih]

@[simp] theorem timaTick_d (cyc : Nat) (s : State) : (timaTick cyc s).d = s.d := by
  unfold timaTick; split <;> simp

@[simp] theorem timerTick_d (cyc : Nat) (s : State) : (timerTick cyc s).d = s.d := by
  simp [timerTick]

@[simp] theorem tickDevices_d (s : State) : (tickDevices s).d = s.d := by
  simp [tickDevices]

@[simp] theorem timaIncrements_e (k : Nat) (s : State) : (timaIncrements k s).e = s.e := by
  induction k generalizing s with
  | zero => rfl
  | succ k ih => simp [timaIncrements, ih]

@[simp] theorem timaTick_e (cyc : Nat) (s : State) : (timaTick cyc s).e = s.e := by
  unfold timaTick; split <;> simp

@[simp] theorem timerTick_e (cyc : Nat) (s : State) : (timerTick cyc s).e = s.e := by
  simp [timerTick]

@[simp] theorem tickDevices_e (s : State) : (tickDevices s).e = s.e := by
  simp [tickDevices]

@[simp] theorem timaIncrements_h (k : Nat) (s : State) : (timaIncrements k s).h = s.h := by
  induction k generalizing s with
  | zero => rfl
  | succ k ih => simp [timaIncrements, ih]

@[simp] theorem timaTick_h (cyc : Nat) (s : State) : (timaTick cyc s).h = s.h := by
  unfold timaTick; split <;> simp

@[simp] theorem timerTick_h (cyc : Nat) (s : State) : (timerTick cyc s).h = s.h := by
  simp [timerTick]

@[simp] theorem tickDevices_h (s : State) : (tickDevices s).h = s.h := by
  simp [tickDevices]

@[simp] theorem timaIncrements_l (k : Nat) (s : State) : (timaIncrements k s).l = s.l := by
  induction k generalizing s with
  | zero => rfl
  | succ k ih => simp [timaIncrements, ih]

@[simp] theorem timaTick_l (cyc : Nat) (s : State) : (timaTick cyc s).l = s.l := by
  unfold timaTick; split <;> simp

@[simp] theorem timerTick_l (cyc : Nat) (s : State) : (timerTick cyc s).l = s.l := by
  simp [timerTick]

@[simp] theorem tickDevices_l (s : State) : (tickDevices s).l = s.l := by
  simp [tickDevices]

@[simp] theorem timaIncrements_sp (k : Nat) (s : State) : (timaIncrements k s).sp = s.sp := by
  induction k generalizing s with
  | zero => rfl
  | succ k ih => simp [timaIncrements, ih]

@[simp] theorem timaTick_sp (cyc : Nat) (s : State) : (timaTick cyc s).sp = s.sp := by
  unfold timaTick; split <;> simp

@[simp] theorem timerTick_sp (cyc : Nat) (s : State) : (timerTick cyc s).sp = s.sp := by
  simp [timerTick]

@[simp] theorem tickDevices_sp (s : State) : (tickDevices s).sp = s.sp := by
  simp [tickDevices]

@[simp] theorem timaIncrements_pc (k : Nat) (s : State) : (timaIncrements k s).pc = s.pc := by
  induction k generalizing s with
  | zero => rfl
  | succ k ih => simp [timaIncrements, ih]

@[simp] theorem timaTick_pc (cyc : Nat) (s : State) : (timaTick cyc s).pc = s.pc := by
  unfold timaTick; split <;> simp

@[simp] theorem timerTick_pc (cyc : Nat) (s : State) : (timerTick cyc s).pc = s.pc := by
  simp [timerTick]

@[simp] theorem tickDevices_pc (s : State) : (tickDevices s).pc = s.pc := by
  simp [tickDevices]

@[simp] theorem timaIncrements_cpuMode (k : Nat) (s : State) : (timaIncrements k s).cpuMode = s.cpuMode := by
  induction k generalizing s with
  | zero => rfl
  | succ k ih => simp [timaIncrements, ih]

@[simp] theorem timaTick_cpuMode (cyc : Nat) (s : State) : (timaTick cyc s).cpuMode = s.cpuMode := by
  unfold timaTick; split <;> simp

@[simp] theorem timerTick_cpuMode (cyc : Nat) (s : State) : (timerTick cyc s).cpuMode = s.cpuMode := by
  simp [timerTick]

@[simp] theorem tickDevices_cpuMode (s : State) : (tickDevices s).cpuMode = s.cpuMode := by
  simp [tickDevices]

@[simp] theorem timaIncrements_ime (k : Nat) (s : State) : (timaIncrements k s).ime = s.ime := by
  induction k generalizing s with
  | zero => rfl
  | succ k ih => simp [timaIncrements, ih]

@[simp] theorem timaTick_ime (cyc : Nat) (s : State) : (timaTick cyc s).ime = s.ime := by
  unfold timaTick; split <;> simp

@[simp] theorem timerTick_ime (cyc : Nat) (s : State) : (timerTick cyc s).ime = s.ime := by
  simp [timerTick]

@[simp] theorem tickDevices_ime (s : State) : (tickDevices s).ime = s.ime := by
  simp [tickDevices]

@[simp] theorem timaIncrements_eiPending (k : Nat) (s : State) : (timaIncrements k s).eiPending = s.eiPending := by
  induction k generalizing s with
  | zero => rfl
  | succ k ih => simp [timaIncrements, ih]

@[simp] theorem timaTick_eiPending (cyc : Nat) (s : State) : (timaTick cyc s).eiPending = s.eiPending := by
  unfold timaTick; split <;> simp

@[simp] theorem timerTick_eiPending (cyc : Nat) (s : State) : (timerTick cyc s).eiPending = s.eiPending := by
  simp [timerTick]

@[simp] theorem tickDevices_eiPending (s : State) : (tickDevices s).eiPending = s.eiPending := by
  simp [tickDevices]

@[simp] theorem timaIncrements_cycles (k : Nat) (s : State) : (timaIncrements k s).cycles = s.cycles := by
  induction k generalizing s with
  | zero => rfl
  | succ k ih => simp [timaIncrements, ih]

@[simp] theorem timaTick_cycles (cyc : Nat) (s : State) : (timaTick cyc s).cycles = s.cycles := by
  unfold timaTick; split <;> simp

@[simp] theorem timerTick_cycles (cyc : Nat) (s : State) : (timerTick cyc s).cycles = s.cycles := by
  simp [timerTick]

@[simp] theorem tickDevices_cycles (s : State) : (tickDevices s).cycles = s.cycles := by
  simp [tickDevices]

@[simp] theorem timaIncrements_rom (k : Nat) (s : State) : (timaIncrements k s).rom = s.rom := by
  induction k generalizing s with
  | zero => rfl
  | succ k ih => simp [timaIncrements, ih]

@[simp] theorem timaTick_rom (cyc : Nat) (s : State) : (timaTick cyc s).rom = s.rom := by
  unfold timaTick; split <;> simp

@[simp] theorem timerTick_rom (cyc : Nat) (s : State) : (timerTick cyc s).rom = s.rom := by
  simp [timerTick]

@[simp] theorem tickDevices_rom (s : State) : (tickDevices s).rom = s.rom := by
  simp [tickDevices]

@[simp] theorem timaIncrements_romSize (k : Nat) (s : State) : (timaIncrements k s).romSize = s.romSize := by
  induction k generalizing s with
  | zero => rfl
  | succ k ih => simp [timaIncrements, ih]

@[simp] theorem timaTick_romSize (cyc : Nat) (s : State) : (timaTick cyc s).romSize = s.romSize := by
  unfold timaTick; split <;> simp

@[simp] theorem timerTick_romSize (cyc : Nat) (s : State) : (timerTick cyc s).romSize = s.romSize := by
  simp [timerTick]

@[simp] theorem tickDevices_romSize (s : State) : (tickDevices s).romSize = s.romSize := by
  simp [tickDevices]

@[simp] theorem timaIncrements_boot (k : Nat) (s : State) : (timaIncrements k s).boot = s.boot := by
  induction k generalizing s with
  | zero => rfl
  | succ k ih => simp [timaIncrements, ih]

@[simp] theorem timaTick_boot (cyc : Nat) (s : State) : (timaTick cyc s).boot = s.boot := by
  unfold timaTick; split <;> simp

@[simp] theorem timerTick_boot (cyc : Nat) (s : State) : (timerTick cyc s).boot = s.boot := by
  simp [timerTick]

@[simp] theorem tickDevices_boot (s : State) : (tickDevices s).boot = s.boot := by
  simp [tickDevices]

@[simp] theorem timaIncrements_vram (k : Nat) (s : State) : (timaIncrements k s).vram = s.vram := by
  induction k generalizing s with
  | zero => rfl
  | succ k ih => simp [timaIncrements, ih]

@[simp] theorem timaTick_vram (cyc : Nat) (s : State) : (timaTick cyc s).vram = s.vram := by
  unfold timaTick; split <;> simp

@[simp] theorem timerTick_vram (cyc : Nat) (s : State) : (timerTick cyc s).vram = s.vram := by
  simp [timerTick]

@[simp] theorem tickDevices_vram (s : State) : (tickDevices s).vram = s.vram := by
  simp [tickDevices]

@[simp] theorem timaIncrements_eram (k : Nat) (s : State) : (timaIncrements k s).eram = s.eram := by
  induction k generalizing s with
  | zero => rfl
  | succ k ih => simp [timaIncrements, ih]

@[simp] theorem timaTick_eram (cyc : Nat) (s : State) : (timaTick cyc s).eram = s.eram := by
  unfold timaTick; split <;> simp

@[simp] theorem timerTick_eram (cyc : Nat) (s : State) : (timerTick cyc s).eram = s.eram := by
  simp [timerTick]

@[simp] theorem tickDevices_eram (s : State) : (tickDevices s).eram = s.eram := by
  simp [tickDevices]

@[simp] theorem timaIncrements_wram (k : Nat) (s : State) : (timaIncrements k s).wram = s.wram := by
  induction k generalizing s with
  | zero => rfl
  | succ k ih => simp [timaIncrements, ih]

@[simp] theorem timaTick_wram (cyc : Nat) (s : State) : (timaTick cyc s).wram = s.wram := by
  unfold timaTick; split <;> simp

@[simp] theorem timerTick_wram (cyc : Nat) (s : State) : (timerTick cyc s).wram = s.wram := by
  simp [timerTick]

@[simp] theorem tickDevices_wram (s : State) : (tickDevices s).wram = s.wram := by
  simp [tickDevices]

@[simp] theorem timaIncrements_oam (k : Nat) (s : State) : (timaIncrements k s).oam = s.oam := by
  induction k generalizing s with
  | zero => rfl
  | succ k ih => simp [timaIncrements, ih]

@[simp] theorem timaTick_oam (cyc : Nat) (s : State) : (timaTick cyc s).oam = s.oam := by
  unfold timaTick; split <;> simp

@[simp] theorem timerTick_oam (cyc : Nat) (s : State) : (timerTick cyc s).oam = s.oam := by
  simp [timerTick]

@[simp] theorem tickDevices_oam (s : State) : (tickDevices s).oam = s.oam := by
  simp [tickDevices]

@[simp] theorem timaIncrements_hram (k : Nat) (s : State) : (timaIncrements k s).hram = s.hram := by
  induction k generalizing s with
  | zero => rfl
  | succ k ih => simp [timaIncrements, ih]

@[simp] theorem timaTick_hram (cyc : Nat) (s : State) : (timaTick cyc s).hram = s.hram := by
  unfold timaTick; split <;> simp

@[simp] theorem timerTick_hram (cyc : Nat) (s : State) : (timerTick cyc s).hram = s.hram := by
  simp [timerTick]

@[simp] theorem tickDevices_hram (s : State) : (tickDevices s).hram = s.hram := by
  simp [tickDevices]

@[simp] theorem timaIncrements_romBank (k : Nat) (s : State) : (timaIncrements k s).romBank = s.romBank := by
  induction k generalizing s with
  | zero => rfl
  | succ k ih => simp [timaIncrements, ih]

@[simp] theorem timaTick_romBank (cyc : Nat) (s : State) : (timaTick cyc s).romBank = s.romBank := by
  unfold timaTick; split <;> simp

@[simp] theorem timerTick_romBank (cyc : Nat) (s : State) : (timerTick cyc s).romBank = s.romBank := by
  simp [timerTick]

@[simp] theorem tickDevices_romBank (s : State) : (tickDevices s).romBank = s.romBank := by
  simp [tickDevices]

@[simp] theorem timaIncrements_ramBank (k : Nat) (s : State) : (timaIncrements k s).ramBank = s.ramBank := by
  induction k generalizing s with
  | zero => rfl
  | succ k ih => simp [timaIncrements, ih]

@[simp] theorem timaTick_ramBank (cyc : Nat) (s : State) : (timaTick cyc s).ramBank = s.ramBank := by
  unfold timaTick; split <;> simp

@[simp] theorem timerTick_ramBank (cyc : Nat) (s : State) : (timerTick cyc s).ramBank = s.ramBank := by
  simp [timerTick]

@[simp] theorem tickDevices_ramBank (s : State) : (tickDevices s).ramBank = s.ramBank := by
  simp [tickDevices]

@[simp] theorem timaIncrements_ramEnabled (k : Nat) (s : State) : (timaIncrements k s).ramEnabled = s.ramEnabled := by
  induction k generalizing s with
  | zero => rfl
  | succ k ih => simp [timaIncrements, ih]

@[simp] theorem timaTick_ramEnabled (cyc : Nat) (s : State) : (timaTick cyc s).ramEnabled = s.ramEnabled := by
  unfold timaTick; split <;> simp

@[simp] theorem timerTick_ramEnabled (cyc : Nat) (s : State) : (timerTick cyc s).ramEnabled = s.ramEnabled := by
  simp [timerTick]

@[simp] theorem tickDevices_ramEnabled (s : State) : (tickDevices s).ramEnabled = s.ramEnabled := by
  simp [tickDevices]

@[simp] theorem timaIncrements_bankingMode (k : Nat) (s : State) : (timaIncrements k s).bankingMode = s.bankingMode := by
  induction k generalizing s with
  | zero => rfl
  | succ k ih => simp [timaIncrements, ih]

@[simp] theorem timaTick_bankingMode (cyc : Nat) (s : State) : (timaTick cyc s).bankingMode = s.bankingMode := by
  unfold timaTick; split <;> simp

@[simp] theorem timerTick_bankingMode (cyc : Nat) (s : State) : (timerTick cyc s).bankingMode = s.bankingMode := by
  simp [timerTick]

@[simp] theorem tickDevices_bankingMode (s : State) : (tickDevices s).bankingMode = s.bankingMode := by
  simp [tickDevices]

@[simp] theorem timaIncrements_cartBanked (k : Nat) (s : State) : (timaIncrements k s).cartBanked = s.cartBanked := by
  induction k generalizing s with
  | zero => rfl
  | succ k ih => simp [timaIncrements, ih]

@[simp] theorem timaTick_cartBanked (cyc : Nat) (s : State) : (timaTick cyc s).cartBanked = s.cartBanked := by
  unfold timaTick; split <;> simp

@[simp] theorem timerTick_cartBanked (cyc : Nat) (s : State) : (timerTick cyc s).cartBanked = s.cartBanked := by
  simp [timerTick]

@[simp] theorem tickDevices_cartBanked (s : State) : (tickDevices s).cartBanked = s.cartBanked := by
  simp [tickDevices]

@[simp] theorem timaIncrements_bootMapped (k : Nat) (s : State) : (timaIncrements k s).bootMapped = s.bootMapped := by
  induction k generalizing s with
  | zero => rfl
  | succ k ih => simp [timaIncrements, ih]

@[simp] theorem timaTick_bootMapped (cyc : Nat) (s : State) : (timaTick cyc s).bootMapped = s.bootMapped := by
  unfold timaTick; split <;> simp

@[simp] theorem timerTick_bootMapped (cyc : Nat) (s : State) : (timerTick cyc s).bootMapped = s.bootMapped := by
  simp [timerTick]

@[simp] theorem tickDevices_bootMapped (s : State) : (tickDevices s).bootMapped = s.bootMapped := by
  simp [tickDevices]

@[simp] theorem timaIncrements_dmaLast (k : Nat) (s : State) : (timaIncrements k s).dmaLast = s.dmaLast := by
  induction k generalizing s with
  | zero => rfl
  | succ k ih => simp [timaIncrements, ih]

@[simp] theorem timaTick_dmaLast (cyc : Nat) (s : State) : (timaTick cyc s).dmaLast = s.dmaLast := by
  unfold timaTick; split <;> simp

@[simp] theorem timerTick_dmaLast (cyc : Nat) (s : State) : (timerTick cyc s).dmaLast = s.dmaLast := by
  simp [timerTick]

@[simp] theorem tickDevices_dmaLast (s : State) : (tickDevices s).dmaLast = s.dmaLast := by
  simp [tickDevices]

@[simp] theorem timaIncrements_ieReg (k : Nat) (s : State) : (timaIncrements k s).ieReg = s.ieReg := by
  induction k generalizing s with
  | zero => rfl
  | succ k ih => simp [timaIncrements, ih]

@[simp] theorem timaTick_ieReg (cyc : Nat) (s : State) : (timaTick cyc s).ieReg = s.ieReg := by
  unfold timaTick; split <;> simp

@[simp] theorem timerTick_ieReg (cyc : Nat) (s : State) : (timerTick cyc s).ieReg = s.ieReg := by
  simp [timerTick]

@[simp] theorem tickDevices_ieReg (s : State) : (tickDevices s).ieReg = s.ieReg := by
  simp [tickDevices]

@[simp] theorem timaIncrements_div (k : Nat) (s : State) : (timaIncrements k s).div = s.div := by
  induction k generalizing s with
  | zero => rfl
  | succ k ih => simp [timaIncrements, ih]

@[simp] theorem timaTick_div (cyc : Nat) (s : State) : (timaTick cyc s).div = s.div := by
  unfold timaTick; split <;> simp

@[simp] theorem timaIncrements_divAcc (k : Nat) (s : State) : (timaIncrements k s).divAcc = s.divAcc := by
  induction k generalizing s with
  | zero => rfl
  | succ k ih => simp [timaIncrements, ih]

@[simp] theorem timaTick_divAcc (cyc : Nat) (s : State) : (timaTick cyc s).divAcc = s.divAcc := by
  unfold timaTick; split <;> simp

@[simp] theorem timaIncrements_tma (k : Nat) (s : State) : (timaIncrements k s).tma = s.tma := by
  induction k generalizing s with
  | zero => rfl
  | succ k ih => simp [timaIncrements, ih]

@[simp] theorem timaTick_tma (cyc : Nat) (s : State) : (timaTick cyc s).tma = s.tma := by
  unfold timaTick; split <;> simp

@[simp] theorem timerTick_tma (cyc : Nat) (s : State) : (timerTick cyc s).tma = s.tma := by
  simp [timerTick]

@[simp] theorem tickDevices_tma (s : State) : (tickDevices s).tma = s.tma := by
  simp [tickDevices]

@[simp] theorem timaIncrements_tac (k : Nat) (s : State) : (timaIncrements k s).tac = s.tac := by
  induction k generalizing s with
  | zero => rfl
  | succ k ih => simp [timaIncrements, ih]

@[simp] theorem timaTick_tac (cyc : Nat) (s : State) : (timaTick cyc s).tac = s.tac := by
  unfold timaTick; split <;> simp

@[simp] theorem timerTick_tac (cyc : Nat) (s : State) : (timerTick cyc s).tac = s.tac := by
  simp [timerTick]

@[simp] theorem tickDevices_tac (s : State) : (tickDevices s).tac = s.tac := by
  simp [tickDevices]

@[simp] theorem timaIncrements_timaAcc (k : Nat) (s : State) : (timaIncrements k s).timaAcc = s.timaAcc := by
  induction k generalizing s with
  | zero => rfl
  | succ k ih => simp [timaIncrements, ih]

@[simp] theorem timaIncrements_lcdc (k : Nat) (s : State) : (timaIncrements k s).lcdc = s.lcdc := by
  induction k generalizing s with
  | zero => rfl
  | succ k ih => simp [timaIncrements, ih]

@[simp] theorem timaTick_lcdc (cyc : Nat) (s : State) : (timaTick cyc s).lcdc = s.lcdc := by
  unfold timaTick; split <;> simp

@[simp] theorem timerTick_lcdc (cyc : Nat) (s : State) : (timerTick cyc s).lcdc = s.lcdc := by
  simp [timerTick]

@[simp] theorem tickDevices_lcdc (s : State) : (tickDevices s).lcdc = s.lcdc := by
  simp [tickDevices]

@[simp] theorem timaIncrements_statEn (k : Nat) (s : State) : (timaIncrements k s).statEn = s.statEn := by
  induction k generalizing s with
  | zero => rfl
  | succ k ih => simp [timaIncrements, ih]

@[simp] theorem timaTick_statEn (cyc : Nat) (s : State) : (timaTick cyc s).statEn = s.statEn := by
  unfold timaTick; split <;> simp

@[simp] theorem timerTick_statEn (cyc : Nat) (s : State) : (timerTick cyc s).statEn = s.statEn := by
  simp [timerTick]

@[simp] theorem tickDevices_statEn (s : State) : (tickDevices s).statEn = s.statEn := by
  simp [tickDevices]

@[simp] theorem timaIncrements_ppuMode (k : Nat) (s : State) : (timaIncrements k s).ppuMode = s.ppuMode := by
  induction k generalizing s with
  | zero => rfl
  | succ k ih => simp [timaIncrements, ih]

@[simp] theorem timaTick_ppuMode (cyc : Nat) (s : State) : (timaTick cyc s).ppuMode = s.ppuMode := by
  unfold timaTick; split <;> simp

@[simp] theorem timerTick_ppuMode (cyc : Nat) (s : State) : (timerTick cyc s).ppuMode = s.ppuMode := by
  simp [timerTick]

@[simp] theorem timaIncrements_modeClock (k : Nat) (s : State) : (timaIncrements k s).modeClock = s.modeClock := by
  induction k generalizing s with
  | zero => rfl
  | succ k ih => simp [timaIncrements, ih]

@[simp] theorem timaTick_modeClock (cyc : Nat) (s : State) : (timaTick cyc s).modeClock = s.modeClock := by
  unfold timaTick; split <;> simp

@[simp] theorem timerTick_modeClock (cyc : Nat) (s : State) : (timerTick cyc s).modeClock = s.modeClock := by
  simp [timerTick]

@[simp] theorem timaIncrements_coincidence (k : Nat) (s : State) : (timaIncrements k s).coincidence = s.coincidence := by
  induction k generalizing s with
  | zero => rfl
  | succ k ih => simp [timaIncrements, ih]

@[simp] theorem timaTick_coincidence (cyc : Nat) (s : State) : (timaTick cyc s).coincidence = s.coincidence := by
  unfold timaTick; split <;> simp

@[simp] theorem timerTick_coincidence (cyc : Nat) (s : State) : (timerTick cyc s).coincidence = s.coincidence := by
  simp [timerTick]

@[simp] theorem timaIncrements_ly (k : Nat) (s : State) : (timaIncrements k s).ly = s.ly := by
  induction k generalizing s with
  | zero => rfl
  | succ k ih => simp [timaIncrements, ih]

@[simp] theorem timaTick_ly (cyc : Nat) (s : State) : (timaTick cyc s).ly = s.ly := by
  unfold timaTick; split <;> simp

@[simp] theorem timerTick_ly (cyc : Nat) (s : State) : (timerTick cyc s).ly = s.ly := by
  simp [timerTick]

@[simp] theorem timaIncrements_lyc (k : Nat) (s : State) : (timaIncrements k s).lyc = s.lyc := by
  induction k generalizing s with
  | zero => rfl
  | succ k ih => simp [timaIncrements, ih]

@[simp] theorem timaTick_lyc (cyc : Nat) (s : State) : (timaTick cyc s).lyc = s.lyc := by
  unfold timaTick; split <;> simp

@[simp] theorem timerTick_lyc (cyc : Nat) (s : State) : (timerTick cyc s).lyc = s.lyc := by
  simp [timerTick]

@[simp] theorem tickDevices_lyc (s : State) : (tickDevices s).lyc = s.lyc := by
  simp [tickDevices]

@[simp] theorem timaIncrements_scy (k : Nat) (s : State) : (timaIncrements k s).scy = s.scy := by
  induction k generalizing s with
  | zero => rfl
  | succ k ih => simp [timaIncrements, ih]

@[simp] theorem timaTick_scy (cyc : Nat) (s : State) : (timaTick cyc s).scy = s.scy := by
  unfold timaTick; split <;> simp

@[simp] theorem timerTick_scy (cyc : Nat) (s : State) : (timerTick cyc s).scy = s.scy := by
  simp [timerTick]

@[simp] theorem tickDevices_scy (s : State) : (tickDevices s).scy = s.scy := by
  simp [tickDevices]

@[simp] theorem timaIncrements_scx (k : Nat) (s : State) : (timaIncrements k s).scx = s.scx := by
  induction k generalizing s with
  | zero => rfl
  | succ k ih => simp [timaIncrements, ih]

@[simp] theorem timaTick_scx (cyc : Nat) (s : State) : (timaTick cyc s).scx = s.scx := by
  unfold timaTick; split <;> simp

@[simp] theorem timerTick_scx (cyc : Nat) (s : State) : (timerTick cyc s).scx = s.scx := by
  simp [timerTick]

@[simp] theorem tickDevices_scx (s : State) : (tickDevices s).scx = s.scx := by
  simp [tickDevices]

@[simp] theorem timaIncrements_bgp (k : Nat) (s : State) : (timaIncrements k s).bgp = s.bgp := by
  induction k generalizing s with
  | zero => rfl
  | succ k ih => simp [timaIncrements, ih]

@[simp] theorem timaTick_bgp (cyc : Nat) (s : State) : (timaTick cyc s).bgp = s.bgp := by
  unfold timaTick; split <;> simp

@[simp] theorem timerTick_bgp (cyc : Nat) (s : State) : (timerTick cyc s).bgp = s.bgp := by
  simp [timerTick]

@[simp] theorem tickDevices_bgp (s : State) : (tickDevices s).bgp = s.bgp := by
  simp [tickDevices]

@[simp] theorem timaIncrements_obp0 (k : Nat) (s : State) : (timaIncrements k s).obp0 = s.obp0 := by
  induction k generalizing s with
  | zero => rfl
  | succ k ih => simp [timaIncrements, ih]

@[simp] theorem timaTick_obp0 (cyc : Nat) (s : State) : (timaTick cyc s).obp0 = s.obp0 := by
  unfold timaTick; split <;> simp

@[simp] theorem timerTick_obp0 (cyc : Nat) (s : State) : (timerTick cyc s).obp0 = s.obp0 := by
  simp [timerTick]

@[simp] theorem tickDevices_obp0 (s : State) : (tickDevices s).obp0 = s.obp0 := by
  simp [tickDevices]

@[simp] theorem timaIncrements_obp1 (k : Nat) (s : State) : (timaIncrements k s).obp1 = s.obp1 := by
  induction k generalizing s with
  | zero => rfl
  | succ k ih => simp [timaIncrements, ih]

@[simp] theorem timaTick_obp1 (cyc : Nat) (s : State) : (timaTick cyc s).obp1 = s.obp1 := by
  unfold timaTick; split <;> simp

@[simp] theorem timerTick_obp1 (cyc : Nat) (s : State) : (timerTick cyc s).obp1 = s.obp1 := by
  simp [timerTick]

@[simp] theorem tickDevices_obp1 (s : State) : (tickDevices s).obp1 = s.obp1 := by
  simp [tickDevices]

@[simp] theorem timaIncrements_wy (k : Nat) (s : State) : (timaIncrements k s).wy = s.wy := by
  induction k generalizing s with
  | zero => rfl
  | succ k ih => simp [timaIncrements, ih]

@[simp] theorem timaTick_wy (cyc : Nat) (s : State) : (timaTick cyc s).wy = s.wy := by
  unfold timaTick; split <;> simp

@[simp] theorem timerTick_wy (cyc : Nat) (s : State) : (timerTick cyc s).wy = s.wy := by
  simp [timerTick]

@[simp] theorem tickDevices_wy (s : State) : (tickDevices s).wy = s.wy := by
  simp [tickDevices]

@[simp] theorem timaIncrements_wx (k : Nat) (s : State) : (timaIncrements k s).wx = s.wx := by
  induction k generalizing s with
  | zero => rfl
  | succ k ih => simp [timaIncrements, ih]

@[simp] theorem timaTick_wx (cyc : Nat) (s : State) : (timaTick cyc s).wx = s.wx := by
  unfold timaTick; split <;> simp

@[simp] theorem timerTick_wx (cyc : Nat) (s : State) : (timerTick cyc s).wx = s.wx := by
  simp [timerTick]

@[simp] theorem tickDevices_wx (s : State) : (tickDevices s).wx = s.wx := by
  simp [tickDevices]

@[simp] theorem timaIncrements_frame (k : Nat) (s : State) : (timaIncrements k s).frame = s.frame := by
  induction k generalizing s with
  | zero => rfl
  | succ k ih => simp [timaIncrements, ih]

@[simp] theorem timaTick_frame (cyc : Nat) (s : State) : (timaTick cyc s).frame = s.frame := by
  unfold timaTick; split <;> simp

@[simp] theorem timerTick_frame (cyc : Nat) (s : State) : (timerTick cyc s).frame = s.frame := by
  simp [timerTick]

@[simp] theorem timaIncrements_sel (k : Nat) (s : State) : (timaIncrements k s).sel = s.sel := by
  induction k generalizing s with
  | zero => rfl
  | succ k ih => simp [timaIncrements, ih]

@[simp] theorem timaTick_sel (cyc : Nat) (s : State) : (timaTick cyc s).sel = s.sel := by
  unfold timaTick; split <;> simp

@[simp] theorem timerTick_sel (cyc : Nat) (s : State) : (timerTick cyc s).sel = s.sel := by
  simp [timerTick]

@[simp] theorem tickDevices_sel (s : State) : (tickDevices s).sel = s.sel := by
  simp [tickDevices]

@[simp] theorem timaIncrements_dirRow (k : Nat) (s : State) : (timaIncrements k s).dirRow = s.dirRow := by
  induction k generalizing s with
  | zero => rfl
  | succ k ih => simp [timaIncrements, ih]

@[simp] theorem timaTick_dirRow (cyc : Nat) (s : State) : (timaTick cyc s).dirRow = s.dirRow := by
  unfold timaTick; split <;> simp

@[simp] theorem timerTick_dirRow (cyc : Nat) (s : State) : (timerTick cyc s).dirRow = s.dirRow := by
  simp [timerTick]

@[simp] theorem tickDevices_dirRow (s : State) : (tickDevices s).dirRow = s.dirRow := by
  simp [tickDevices]

@[simp] theorem timaIncrements_actRow (k : Nat) (s : State) : (timaIncrements k s).actRow = s.actRow := by
  induction k generalizing s with
  | zero => rfl
  | succ k ih => simp [timaIncrements, ih]

@[simp] theorem timaTick_actRow (cyc : Nat) (s : State) : (timaTick cyc s).actRow = s.actRow := by
  unfold timaTick; split <;> simp

@[simp] theorem timerTick_actRow (cyc : Nat) (s : State) : (timerTick cyc s).actRow = s.actRow := by
  simp [timerTick]

@[simp] theorem tickDevices_actRow (s : State) : (tickDevices s).actRow = s.actRow := by
  simp [tickDevices]

@[simp] theorem timaIncrements_haltWakeNeedsIe (k : Nat) (s : State) : (timaIncrements k s).haltWakeNeedsIe = s.haltWakeNeedsIe := by
  induction k generalizing s with
  | zero => rfl
  | succ k ih => simp [timaIncrements, ih]

@[simp] theorem timaTick_haltWakeNeedsIe (cyc : Nat) (s : State) : (timaTick cyc s).haltWakeNeedsIe = s.haltWakeNeedsIe := by
  unfold timaTick; split <;> simp

@[simp] theorem timerTick_haltWakeNeedsIe (cyc : Nat) (s : State) : (timerTick cyc s).haltWakeNeedsIe = s.haltWakeNeedsIe := by
  simp [timerTick]

@[simp] theorem tickDevices_haltWakeNeedsIe (s : State) : (tickDevices s).haltWakeNeedsIe = s.haltWakeNeedsIe := by
  simp [tickDevices]

@[simp] theorem timaIncrements_hostEvents (k : Nat) (s : State) : (timaIncrements k s).hostEvents = s.hostEvents := by
  induction k generalizing s with
  | zero => rfl
  | succ k ih => simp [timaIncrements, ih]

@[simp] theorem timaTick_hostEvents (cyc : Nat) (s : State) : (timaTick cyc s).hostEvents = s.hostEvents := by
  unfold timaTick; split <;> simp

@[simp] theorem timerTick_hostEvents (cyc : Nat) (s : State) : (timerTick cyc s).hostEvents = s.hostEvents := by
  simp [timerTick]

@[simp] theorem tickDevices_hostEvents (s : State) : (tickDevices s).hostEvents = s.hostEvents := by
  simp [tickDevices]

/-! ## The loop of the mode machine -/

@[simp] theorem ppuTransition_modeClock (s : State) : (ppuTransition s).modeClock = s.modeClock - modeLimit s.ppuMode := by
  unfold ppuTransition leaveOamScan leaveDrawLine leaveHblank leaveVblank
  cases s.ppuMode <;> dsimp only <;> (repeat' split) <;> simp

theorem modeLimit_ge (m : PpuMode) : 80 ≤ modeLimit m := by cases m <;> decide

/-- Enough fuel: the clock ends below its mode's length (log 11). -/
theorem ppuLoop_clock : ∀ (fuel : Nat) (s : State), s.modeClock < 80 * fuel →
    (ppuLoop fuel s).modeClock < modeLimit (ppuLoop fuel s).ppuMode
  | 0, s, h => by omega
  | fuel + 1, s, h => by
    simp only [ppuLoop]
    split
    · refine ppuLoop_clock fuel _ ?_
      have := modeLimit_ge s.ppuMode
      rw [ppuTransition_modeClock]
      omega
    · omega

/-- More fuel changes nothing (log 11). -/
theorem ppuLoop_fuel : ∀ (fuel extra : Nat) (s : State), s.modeClock < 80 * fuel → ppuLoop (fuel + extra) s = ppuLoop fuel s
  | 0, _, _, h => by omega
  | fuel + 1, extra, s, h => by
    rw [Nat.add_right_comm]
    simp only [ppuLoop]
    split
    · refine ppuLoop_fuel fuel extra _ ?_
      have := modeLimit_ge s.ppuMode
      rw [ppuTransition_modeClock]
      omega
    · rfl

/-- A line's relations between LY, the mode and the coincidence flag. -/
structure LinesLegal (s : State) : Prop where
  lyLow : s.ly.toNat < 154
  vblankLines : s.ppuMode = .vblank ↔ 144 ≤ s.ly.toNat
  coincidenceNow : s.coincidence = decide (s.ly = s.lyc)

theorem ppuTransition_lines {s : State} (h : LinesLegal s) : LinesLegal (ppuTransition s) := by
  have hl := h.lyLow
  have hv := h.vblankLines
  unfold ppuTransition
  dsimp only
  split
  · rename_i hm
    exact ⟨hl, by simp [leaveOamScan]; simpa [hm] using hv, h.coincidenceNow⟩
  · rename_i hm
    unfold leaveDrawLine
    dsimp only
    split <;> exact ⟨by simpa using hl, by simp; simpa [hm] using hv, h.coincidenceNow⟩
  · rename_i hm
    simp [hm] at hv
    unfold leaveHblank
    dsimp only
    have e : (s.ly + 1).toNat = s.ly.toNat + 1 := by rw [BitVec.toNat_add]; simp; omega
    split
    · rename_i h144
      simp at h144
      split <;> exact ⟨by simp [h144], by simp [h144], by simp⟩
    · rename_i h144
      simp at h144
      have h144' : (s.ly + 1).toNat ≠ 144 := fun hh => h144 (BitVec.eq_of_toNat_eq hh)
      exact ⟨by simp only [coincidenceUpdate_ly]; omega,
        by simp only [coincidenceUpdate_ly, reduceCtorEq, false_iff]; omega, by simp⟩
  · rename_i hm
    simp [hm] at hv
    unfold leaveVblank
    split
    · exact ⟨by simp, by simp, by simp⟩
    · rename_i h153
      simp only at h153
      have e : (s.ly + 1).toNat = s.ly.toNat + 1 := by rw [BitVec.toNat_add]; simp; omega
      exact ⟨by simp only [coincidenceUpdate_ly]; omega,
        by simp only [coincidenceUpdate_ly, coincidenceUpdate_ppuMode, hm, true_iff]; omega, by simp⟩

theorem ppuLoop_lines : ∀ (fuel : Nat) (s : State), LinesLegal s → LinesLegal (ppuLoop fuel s)
  | 0, _, h => h
  | fuel + 1, s, h => by
    simp only [ppuLoop]
    split
    · exact ppuLoop_lines fuel _ (ppuTransition_lines h)
    · exact h

theorem timaThreshold_pos (tac : BitVec 3) : 0 < timaThreshold tac := by
  unfold timaThreshold
  split <;> decide

end Sys2Proof.Machine
end

