-- ==== Sys2Proof/Laws/Exec.lean ====
section
/-! SUPPORT. What the instructions are made of: a property of states that the named operations keep is kept by every instruction
but the undefined opcodes. -/

namespace Sys2Proof.Machine

/-- A property of states that every operation an instruction is made of keeps. -/
structure OpsKeep (Q : State → Prop) : Prop where
  reg : ∀ s r v, Q s → Q (s.setReg r v)
  acc : ∀ s v, Q s → Q { s with a := v }
  flags : ∀ s fl, Q s → Q (s.setFlags fl)
  pair : ∀ s r w, Q s → Q (s.setReg16 r w)
  stackPair : ∀ s q w, Q s → Q (s.setStackPair q w)
  sp : ∀ s w, Q s → Q { s with sp := w }
  pc : ∀ s w, Q s → Q { s with pc := w }
  write : ∀ s addr v, Q s → Q (memWrite s addr v)
  cycles : ∀ s n, Q s → Q { s with cycles := n }
  halt : ∀ s, Q s → Q { s with cpuMode := .halted }
  stop : ∀ s, Q s → Q { s with cpuMode := .stopped }
  ime : ∀ s x, Q s → Q { s with ime := x, eiPending := false }
  ei : ∀ s, Q s → Q { s with eiPending := true }

/-- A result that is a next state with a property. -/
def Result.NextWith (Q : State → Prop) (r : Result) : Prop := ∃ t, r = .next t ∧ Q t

variable {Q : State → Prop} (k : OpsKeep Q) {s : State}
include k

theorem OpsKeep.push16 (w : Word) (h : Q s) : Q (push16 w s) :=
  k.write _ _ _ (k.sp _ _ (k.write _ _ _ (k.sp _ _ h)))

theorem OpsKeep.popped (h : Q s) : Q (popped s) := k.sp _ _ h

theorem OpsKeep.setHl (w : Word) (h : Q s) : Q (s.setHl w) := k.pair s .hl w h

theorem OpsKeep.retire (cyc : Nat) (h : Q s) : Result.NextWith Q (retire cyc s) := ⟨_, rfl, k.cycles _ _ h⟩

theorem OpsKeep.retireAdvance (cyc len : Nat) (h : Q s) : Result.NextWith Q (Machine.retire cyc (advance len s)) :=
  k.retire cyc (k.pc _ _ h)

theorem OpsKeep.writeLoc (loc : Loc8) (v : Byte) (h : Q s) : Q (writeLoc s loc v) := by
  cases loc
  · exact k.reg _ _ _ h
  · exact k.write _ _ _ h

theorem OpsKeep.aluTo (out : AluOut) (len cyc : Nat) (h : Q s) : Result.NextWith Q (aluTo out len cyc s) :=
  k.retireAdvance _ _ (k.flags _ _ (k.acc _ _ h))

theorem OpsKeep.aluFlags (fl : Flags) (len cyc : Nat) (h : Q s) : Result.NextWith Q (aluFlags fl len cyc s) :=
  k.retireAdvance _ _ (k.flags _ _ h)

theorem OpsKeep.rotLoc (op : RotOp) (loc : Loc8) (h : Q s) : Result.NextWith Q (rotLoc op loc s) :=
  k.retireAdvance _ _ (k.flags _ _ (k.writeLoc _ _ h))

theorem OpsKeep.bitBit (bit : Nat) (loc : Loc8) (h : Q s) : Result.NextWith Q (bitBit bit loc s) :=
  k.retireAdvance _ _ (k.flags _ _ h)

theorem OpsKeep.resBit (bit : Nat) (loc : Loc8) (h : Q s) : Result.NextWith Q (resBit bit loc s) :=
  k.retireAdvance _ _ (k.writeLoc _ _ h)

theorem OpsKeep.setBit (bit : Nat) (loc : Loc8) (h : Q s) : Result.NextWith Q (setBit bit loc s) :=
  k.retireAdvance _ _ (k.writeLoc _ _ h)

theorem OpsKeep.execCbByte (b2 : Byte) (h : Q s) : Result.NextWith Q (execCbByte b2 s) := by
  unfold Machine.execCbByte
  split
  · exact k.rotLoc _ _ h
  · exact k.bitBit _ _ h
  · exact k.resBit _ _ h
  · exact k.setBit _ _ h

theorem OpsKeep.jumpAbs (taken : Bool) (nn : Word) (c1 c2 : Nat) (h : Q s) : Result.NextWith Q (jumpAbs taken nn c1 c2 s) := by
  unfold Machine.jumpAbs
  split
  · exact k.retire _ (k.pc _ _ h)
  · exact k.retireAdvance _ _ h

theorem OpsKeep.jumpRel (taken : Bool) (e : Byte) (c1 c2 : Nat) (h : Q s) : Result.NextWith Q (jumpRel taken e c1 c2 s) := by
  unfold Machine.jumpRel
  split
  · exact k.retire _ (k.pc _ _ h)
  · exact k.retireAdvance _ _ h

theorem OpsKeep.callAbs (taken : Bool) (nn : Word) (c1 c2 : Nat) (h : Q s) : Result.NextWith Q (callAbs taken nn c1 c2 s) := by
  unfold Machine.callAbs
  split
  · exact k.retire _ (k.pc _ _ (k.push16 _ h))
  · exact k.retireAdvance _ _ h

theorem OpsKeep.returnIf (taken : Bool) (c1 c2 : Nat) (h : Q s) : Result.NextWith Q (returnIf taken c1 c2 s) := by
  unfold Machine.returnIf
  split
  · exact k.retire _ (k.pc _ _ (k.popped h))
  · exact k.retireAdvance _ _ h

theorem OpsKeep.restart (t : Word) (h : Q s) : Result.NextWith Q (restart t s) := k.retire _ (k.pc _ _ (k.push16 _ h))

/-- Every instruction but the undefined opcodes answers a next state, and it keeps what the operations keep. -/
theorem OpsKeep.exec (i : Instr) (hi : ∀ b, i ≠ .undefined b) (h : Q s) : Result.NextWith Q (exec i s) := by
  cases i
  case undefined b => exact absurd rfl (hi b)
  case ld_bc_nn | ld_de_nn | ld_hl_nn | ld_sp_nn =>
    exact k.retireAdvance _ _ (k.pair _ _ _ h)
  case inc_bc | inc_de | inc_hl | inc_sp =>
    exact k.retireAdvance _ _ (k.pair _ _ _ h)
  case dec_bc | dec_de | dec_hl | dec_sp =>
    exact k.retireAdvance _ _ (k.pair _ _ _ h)
  case ld_b_n | ld_c_n | ld_d_n | ld_e_n | ld_h_n | ld_l_n | ld_a_n =>
    exact k.retireAdvance _ _ (k.reg _ _ _ h)
  case ldh_a_indN | ld_a_indNn | ld_a_indBc | ld_a_indDe | ld_a_indC =>
    exact k.retireAdvance _ _ (k.reg _ _ _ h)
  case ld_b_b | ld_b_c | ld_b_d | ld_b_e | ld_b_h | ld_b_l | ld_b_a | ld_c_b | ld_c_c | ld_c_d | ld_c_e | ld_c_h |
      ld_c_l | ld_c_a | ld_d_b | ld_d_c | ld_d_d | ld_d_e | ld_d_h | ld_d_l | ld_d_a | ld_e_b | ld_e_c | ld_e_d |
      ld_e_e | ld_e_h | ld_e_l | ld_e_a | ld_h_b | ld_h_c | ld_h_d | ld_h_e | ld_h_h | ld_h_l | ld_h_a | ld_l_b |
      ld_l_c | ld_l_d | ld_l_e | ld_l_h | ld_l_l | ld_l_a | ld_a_b | ld_a_c | ld_a_d | ld_a_e | ld_a_h | ld_a_l |
      ld_a_a =>
    exact k.retireAdvance _ _ (k.reg _ _ _ h)
  case ld_b_indHl | ld_c_indHl | ld_d_indHl | ld_e_indHl | ld_h_indHl | ld_l_indHl | ld_a_indHl =>
    exact k.retireAdvance _ _ (k.reg _ _ _ h)
  case ld_indNn_sp =>
    exact k.retireAdvance _ _ (k.write _ _ _ (k.write _ _ _ h))
  case stop =>
    exact k.retireAdvance _ _ (k.stop _ h)
  case jr_e =>
    exact k.jumpRel true _ 12 8 h
  case jr_nz_e | jr_z_e | jr_nc_e | jr_c_e =>
    exact k.jumpRel _ _ _ _ h
  case ld_indHl_n =>
    exact k.retireAdvance _ _ (k.write _ _ _ h)
  case ldh_indN_a | ld_indNn_a | ld_indBc_a | ld_indDe_a | ld_indC_a =>
    exact k.retireAdvance _ _ (k.write _ _ _ h)
  case ld_indHl_b | ld_indHl_c | ld_indHl_d | ld_indHl_e | ld_indHl_h | ld_indHl_l | ld_indHl_a =>
    exact k.retireAdvance _ _ (k.write _ _ _ h)
  case jp_nz_nn | jp_z_nn | jp_nc_nn | jp_c_nn =>
    exact k.jumpAbs _ _ _ _ h
  case jp_nn =>
    exact k.jumpAbs true _ 16 12 h
  case call_nz_nn | call_z_nn | call_nc_nn | call_c_nn =>
    exact k.callAbs _ _ _ _ h
  case add_a_n | add_a_b | add_a_c | add_a_d | add_a_e | add_a_h | add_a_l | add_a_indHl | add_a_a =>
    exact k.aluTo _ _ _ h
  case adc_a_n | adc_a_b | adc_a_c | adc_a_d | adc_a_e | adc_a_h | adc_a_l | adc_a_indHl | adc_a_a =>
    exact k.aluTo _ _ _ h
  case sub_n | sub_b | sub_c | sub_d | sub_e | sub_h | sub_l | sub_indHl | sub_a =>
    exact k.aluTo _ _ _ h
  case sbc_a_n | sbc_a_b | sbc_a_c | sbc_a_d | sbc_a_e | sbc_a_h | sbc_a_l | sbc_a_indHl | sbc_a_a =>
    exact k.aluTo _ _ _ h
  case and_n | and_b | and_c | and_d | and_e | and_h | and_l | and_indHl | and_a =>
    exact k.aluTo _ _ _ h
  case xor_n | xor_b | xor_c | xor_d | xor_e | xor_h | xor_l | xor_indHl | xor_a =>
    exact k.aluTo _ _ _ h
  case or_n | or_b | or_c | or_d | or_e | or_h | or_l | or_indHl | or_a =>
    exact k.aluTo _ _ _ h
  case daa | cpl =>
    exact k.aluTo _ _ _ h
  case prefix_cb =>
    exact k.execCbByte _ h
  case call_nn =>
    exact k.callAbs true _ 24 12 h
  case add_sp_e =>
    exact k.retireAdvance _ _ (k.flags _ _ (k.sp _ _ h))
  case ld_hl_spE =>
    exact k.retireAdvance _ _ (k.flags _ _ (k.setHl _ h))
  case add_hl_bc | add_hl_de | add_hl_hl | add_hl_sp =>
    exact k.retireAdvance _ _ (k.flags _ _ (k.setHl _ h))
  case cp_n | cp_b | cp_c | cp_d | cp_e | cp_h | cp_l | cp_indHl | cp_a =>
    exact k.aluFlags _ _ _ h
  case scf | ccf =>
    exact k.aluFlags _ _ _ h
  case nop =>
    exact k.retireAdvance _ _ h
  case inc_b | inc_c | inc_d | inc_e | inc_h | inc_l | inc_a =>
    exact k.retireAdvance _ _ (k.flags _ _ (k.reg _ _ _ h))
  case dec_b | dec_c | dec_d | dec_e | dec_h | dec_l | dec_a =>
    exact k.retireAdvance _ _ (k.flags _ _ (k.reg _ _ _ h))
  case rlca | rrca | rla | rra =>
    exact k.retireAdvance _ _ (k.flags _ _ (k.acc _ _ h))
  case ld_indHlInc_a | ld_indHlDec_a =>
    exact k.retireAdvance _ _ (k.setHl _ (k.write _ _ _ h))
  case ld_a_indHlInc | ld_a_indHlDec =>
    exact k.retireAdvance _ _ (k.setHl _ (k.reg _ _ _ h))
  case inc_indHl =>
    exact k.retireAdvance _ _ (k.flags _ _ (k.write _ _ _ h))
  case dec_indHl =>
    exact k.retireAdvance _ _ (k.flags _ _ (k.write _ _ _ h))
  case halt =>
    exact k.retireAdvance _ _ (k.halt _ h)
  case ret_nz | ret_z | ret_nc | ret_c =>
    exact k.returnIf _ _ _ h
  case pop_bc | pop_de | pop_hl | pop_af =>
    exact k.retireAdvance _ _ (k.stackPair _ _ _ (k.popped h))
  case push_bc | push_de | push_hl | push_af =>
    exact k.retireAdvance _ _ (k.push16 _ h)
  case rst_00 | rst_08 | rst_10 | rst_18 | rst_20 | rst_28 | rst_30 | rst_38 =>
    exact k.restart _ h
  case ret =>
    exact k.returnIf true 16 8 h
  case reti =>
    exact k.retire _ (k.ime _ true (k.pc _ (popValue s) (k.popped h)))
  case jp_hl =>
    exact k.retire _ (k.pc _ _ h)
  case di =>
    exact k.retireAdvance _ _ (k.ime _ _ h)
  case ld_sp_hl =>
    exact k.retireAdvance _ _ (k.sp _ _ h)
  case ei =>
    exact k.retireAdvance _ _ (k.ei _ h)
  case rlc_b | rlc_c | rlc_d | rlc_e | rlc_h | rlc_l | rlc_indHl | rlc_a | rrc_b | rrc_c | rrc_d | rrc_e | rrc_h |
      rrc_l | rrc_indHl | rrc_a | rl_b | rl_c | rl_d | rl_e | rl_h | rl_l | rl_indHl | rl_a | rr_b | rr_c | rr_d |
      rr_e | rr_h | rr_l | rr_indHl | rr_a | sla_b | sla_c | sla_d | sla_e | sla_h | sla_l | sla_indHl | sla_a |
      sra_b | sra_c | sra_d | sra_e | sra_h | sra_l | sra_indHl | sra_a | swap_b | swap_c | swap_d | swap_e |
      swap_h | swap_l | swap_indHl | swap_a | srl_b | srl_c | srl_d | srl_e | srl_h | srl_l | srl_indHl | srl_a =>
    exact k.rotLoc _ _ h
  case bit_0_b | bit_0_c | bit_0_d | bit_0_e | bit_0_h | bit_0_l | bit_0_indHl | bit_0_a | bit_1_b | bit_1_c |
      bit_1_d | bit_1_e | bit_1_h | bit_1_l | bit_1_indHl | bit_1_a | bit_2_b | bit_2_c | bit_2_d | bit_2_e |
      bit_2_h | bit_2_l | bit_2_indHl | bit_2_a | bit_3_b | bit_3_c | bit_3_d | bit_3_e | bit_3_h | bit_3_l |
      bit_3_indHl | bit_3_a | bit_4_b | bit_4_c | bit_4_d | bit_4_e | bit_4_h | bit_4_l | bit_4_indHl | bit_4_a |
      bit_5_b | bit_5_c | bit_5_d | bit_5_e | bit_5_h | bit_5_l | bit_5_indHl | bit_5_a | bit_6_b | bit_6_c |
      bit_6_d | bit_6_e | bit_6_h | bit_6_l | bit_6_indHl | bit_6_a | bit_7_b | bit_7_c | bit_7_d | bit_7_e |
      bit_7_h | bit_7_l | bit_7_indHl | bit_7_a =>
    exact k.bitBit _ _ h
  case res_0_b | res_0_c | res_0_d | res_0_e | res_0_h | res_0_l | res_0_indHl | res_0_a | res_1_b | res_1_c |
      res_1_d | res_1_e | res_1_h | res_1_l | res_1_indHl | res_1_a | res_2_b | res_2_c | res_2_d | res_2_e |
      res_2_h | res_2_l | res_2_indHl | res_2_a | res_3_b | res_3_c | res_3_d | res_3_e | res_3_h | res_3_l |
      res_3_indHl | res_3_a | res_4_b | res_4_c | res_4_d | res_4_e | res_4_h | res_4_l | res_4_indHl | res_4_a |
      res_5_b | res_5_c | res_5_d | res_5_e | res_5_h | res_5_l | res_5_indHl | res_5_a | res_6_b | res_6_c |
      res_6_d | res_6_e | res_6_h | res_6_l | res_6_indHl | res_6_a | res_7_b | res_7_c | res_7_d | res_7_e |
      res_7_h | res_7_l | res_7_indHl | res_7_a =>
    exact k.resBit _ _ h
  case set_0_b | set_0_c | set_0_d | set_0_e | set_0_h | set_0_l | set_0_indHl | set_0_a | set_1_b | set_1_c |
      set_1_d | set_1_e | set_1_h | set_1_l | set_1_indHl | set_1_a | set_2_b | set_2_c | set_2_d | set_2_e |
      set_2_h | set_2_l | set_2_indHl | set_2_a | set_3_b | set_3_c | set_3_d | set_3_e | set_3_h | set_3_l |
      set_3_indHl | set_3_a | set_4_b | set_4_c | set_4_d | set_4_e | set_4_h | set_4_l | set_4_indHl | set_4_a |
      set_5_b | set_5_c | set_5_d | set_5_e | set_5_h | set_5_l | set_5_indHl | set_5_a | set_6_b | set_6_c |
      set_6_d | set_6_e | set_6_h | set_6_l | set_6_indHl | set_6_a | set_7_b | set_7_c | set_7_d | set_7_e |
      set_7_h | set_7_l | set_7_indHl | set_7_a =>
    exact k.setBit _ _ h

end Sys2Proof.Machine
end

