-- ==== Sys2Proof/Laws/Legal.lean ====
section
/-! SUPPORT. The legality of a state through the operations an instruction is made of. -/

namespace Sys2Proof.Machine

/-- What a legal state keeps between the pieces of a step: all of `Legal` but what only the end of a step restores, and a CPU
that is not Faulted. -/
structure BusyLegal (s : State) : Prop where
  storage : StorageLegal s
  flagsLow : s.f &&& 0x0F#8 = 0x00#8
  romBankLow : s.romBank.extractLsb' 0 5 ≠ 0#5
  bootPresent : s.bootMapped = true → s.boot.isSome = true
  notFaulted : ∀ k pc byte, s.cpuMode ≠ .faulted k pc byte
  divAccLow : s.divAcc < Config.divPeriod
  modeClockLow : s.modeClock < modeLimit s.ppuMode
  lyLow : s.ly.toNat < 154
  vblankLines : s.ppuMode = .vblank ↔ 144 ≤ s.ly.toNat
  coincidenceNow : s.coincidence = decide (s.ly = s.lyc)

theorem packFlags_low (fl : Flags) : packFlags fl &&& 0x0F#8 = 0x00#8 := by
  rcases fl with ⟨z, n, h, c⟩
  revert z n h c; decide

theorem selectRomLow_low (v : Byte) (s : State) : (selectRomLow v s).romBank.extractLsb' 0 5 ≠ 0#5 := by
  simp only [selectRomLow]
  generalize s.romBank.extractLsb' 5 2 = a
  generalize v.extractLsb' 0 5 = b
  revert a b; decide

theorem high_low (a : BitVec 2) (b : BitVec 5) : (a ++ b).extractLsb' 0 5 = b := by
  revert a b; decide

theorem BusyLegal.congr {s t : State} (h : BusyLegal s) (st : StorageLegal t) (f : t.f &&& 0x0F#8 = 0x00#8) (rb : t.romBank.extractLsb' 0 5 ≠ 0#5)
  (bm : t.bootMapped = true → s.bootMapped = true) (bo : t.boot = s.boot) (cm : ∀ k pc byte, t.cpuMode ≠ .faulted k pc byte)
  (da : t.divAcc < Config.divPeriod) (mc : t.modeClock = s.modeClock) (pm : t.ppuMode = s.ppuMode) (ly : t.ly = s.ly)
  (co : t.coincidence = decide (t.ly = t.lyc)) : BusyLegal t where
  storage := st
  flagsLow := f
  romBankLow := rb
  bootPresent := fun hb => bo ▸ h.bootPresent (bm hb)
  notFaulted := cm
  divAccLow := da
  modeClockLow := by rw [mc, pm]; exact h.modeClockLow
  lyLow := ly ▸ h.lyLow
  vblankLines := by rw [pm, ly]; exact h.vblankLines
  coincidenceNow := co

theorem memWrite_busy (addr : Word) (v : Byte) {s : State} (h : BusyLegal s) : BusyLegal (memWrite s addr v) := by
  have hs := memWrite_storage addr v h.storage
  refine h.congr hs (by simpa using h.flagsLow) ?_ ?_ (by simp) (by simpa using h.notFaulted) ?_ (by simp) (by simp) (by simp) ?_
  · apply memWrite_cases (P := fun t => t.romBank.extractLsb' 0 5 ≠ 0#5) <;> intros
    case cart =>
      unfold cartWrite selectHigh
      have hr := h.romBankLow
      (repeat' split)
      · exact hr
      · exact selectRomLow_low _ _
      · simp only [high_low]; exact hr
      · exact hr
      · exact hr
      · exact hr
    case io => simpa using h.romBankLow
    all_goals exact h.romBankLow
  · apply memWrite_cases (P := fun t => t.bootMapped = true → s.bootMapped = true) <;> intros
    case io r _ hb =>
      revert hb
      apply writeIo_cases (P := fun t => t.bootMapped = true → s.bootMapped = true) <;> simp
    all_goals simp_all
  · apply memWrite_cases (P := fun t => t.divAcc < Config.divPeriod) <;> intros
    case io r _ =>
      apply writeIo_cases (P := fun t => t.divAcc < Config.divPeriod) <;> first | (simpa using h.divAccLow) | simp [Config.divPeriod]
    case cart => simpa using h.divAccLow
    all_goals exact h.divAccLow
  · apply memWrite_cases (P := fun t => t.coincidence = decide (t.ly = t.lyc)) <;> intros
    case io r _ =>
      apply writeIo_cases (P := fun t => t.coincidence = decide (t.ly = t.lyc))
      case lyc => simp
      case dma => simpa using h.coincidenceNow
      all_goals exact h.coincidenceNow
    case cart => simpa using h.coincidenceNow
    all_goals exact h.coincidenceNow

theorem busyLegal_ops : OpsKeep BusyLegal where
  reg s r v h := by
    cases r <;> exact { h with storage := h.storage.congr rfl rfl rfl rfl rfl rfl rfl rfl rfl }
  acc s v h := { h with storage := h.storage.congr rfl rfl rfl rfl rfl rfl rfl rfl rfl }
  flags s fl h := { h with storage := h.storage.congr rfl rfl rfl rfl rfl rfl rfl rfl rfl, flagsLow := packFlags_low fl }
  pair s r w h := by cases r <;> exact { h with storage := h.storage.congr rfl rfl rfl rfl rfl rfl rfl rfl rfl }
  stackPair s q w h := by
    cases q
    case af => exact { h with storage := h.storage.congr rfl rfl rfl rfl rfl rfl rfl rfl rfl, flagsLow := (by simp only [State.setStackPair, State.setF]; generalize lo w = x; revert x; decide) }
    all_goals exact { h with storage := h.storage.congr rfl rfl rfl rfl rfl rfl rfl rfl rfl }
  sp s w h := { h with storage := h.storage.congr rfl rfl rfl rfl rfl rfl rfl rfl rfl }
  pc s w h := { h with storage := h.storage.congr rfl rfl rfl rfl rfl rfl rfl rfl rfl }
  write s addr v h := memWrite_busy addr v h
  cycles s n h := { h with storage := h.storage.congr rfl rfl rfl rfl rfl rfl rfl rfl rfl }
  halt s h := { h with storage := h.storage.congr rfl rfl rfl rfl rfl rfl rfl rfl rfl, notFaulted := by simp }
  stop s h := { h with storage := h.storage.congr rfl rfl rfl rfl rfl rfl rfl rfl rfl, notFaulted := by simp }
  ime s x h := { h with storage := h.storage.congr rfl rfl rfl rfl rfl rfl rfl rfl rfl }
  ei s h := { h with storage := h.storage.congr rfl rfl rfl rfl rfl rfl rfl rfl rfl }

end Sys2Proof.Machine
end

