-- ==== Sys2Proof/Laws/Step.lean ====
section
/-! SUPPORT. The parts of a step: the host's events, the head of the step in each mode, the interrupt check, the fetch, and that
each of them keeps a state legal. -/

namespace Sys2Proof.Machine

/-! ## Bytes -/

/-- A property of bytes that holds for all 16 · 16 pairs of digits holds for every byte. -/
theorem byte_forall {P : Byte → Prop} (h : ∀ i j : Fin 16, P (BitVec.ofNat 8 (16 * i.val + j.val))) (b : Byte) : P b := by
  have hb := b.isLt
  have := h ⟨b.toNat / 16, by omega⟩ ⟨b.toNat % 16, by omega⟩
  have e : BitVec.ofNat 8 (16 * (b.toNat / 16) + b.toNat % 16) = b := by
    apply BitVec.eq_of_toNat_eq
    simp
    omega
  rw [← e]
  exact this

/-! ## The host's events -/

theorem applyHostEvents_none {s : State} (h : s.hostEvents = []) : applyHostEvents s = s := by
  simp [applyHostEvents, h]

theorem applyHostEvents_batch {s : State} {batch : List KeyEvent} {later : List (List KeyEvent)}
    (h : s.hostEvents = batch :: later) : applyHostEvents s = batch.foldl applyKeyEvent { s with hostEvents := later } := by
  rw [applyHostEvents, h]

theorem wakeFromStop_atCycles (s : State) (n : Nat) :
    wakeFromStop { s with cycles := n } = { wakeFromStop s with cycles := n } := by
  unfold wakeFromStop
  dsimp only
  split <;> rfl

/-- A key event neither reads nor writes the cycle count (R71). -/
theorem applyKeyEvent_atCycles (s : State) (e : KeyEvent) (n : Nat) :
    applyKeyEvent { s with cycles := n } e = { applyKeyEvent s e with cycles := n } := by
  cases e with
  | up row k => cases row <;> rfl
  | down row k =>
    have hr : State.row { s with cycles := n } row = s.row row := by cases row <;> rfl
    have hs : ∀ v, State.setRow { s with cycles := n } row v = { s.setRow row v with cycles := n } := fun v => by
      cases row <;> rfl
    simp only [applyKeyEvent, keyDown, hr, hs]
    split
    · exact wakeFromStop_atCycles (request .joypad (s.setRow row _)) n
    · exact wakeFromStop_atCycles (s.setRow row _) n

theorem foldEvents_atCycles (n : Nat) : ∀ (batch : List KeyEvent) (s : State),
    batch.foldl applyKeyEvent { s with cycles := n } = { batch.foldl applyKeyEvent s with cycles := n }
  | [], _ => rfl
  | e :: es, s => by rw [List.foldl_cons, applyKeyEvent_atCycles, foldEvents_atCycles n es, List.foldl_cons]

theorem applyHostEvents_atCycles (s : State) (n : Nat) :
    applyHostEvents { s with cycles := n } = { applyHostEvents s with cycles := n } := by
  obtain ⟨ev, h⟩ : ∃ ev, s.hostEvents = ev := ⟨_, rfl⟩
  cases ev with
  | nil => rw [applyHostEvents_none h, applyHostEvents_none (s := { s with cycles := n }) h]
  | cons batch later =>
    rw [applyHostEvents_batch h, applyHostEvents_batch (s := { s with cycles := n }) h]
    exact foldEvents_atCycles n batch { s with hostEvents := later }

theorem step_noEvents {s : State} (h : s.hostEvents = []) : step s = systemStep s := by
  rw [step, applyHostEvents_none h]

/-- All that a key event can change. -/
theorem applyKeyEvent_changes (s : State) (e : KeyEvent) :
    ∃ a d i m, applyKeyEvent s e = { s with actRow := a, dirRow := d, ifReg := i, cpuMode := m } ∧
      (m = s.cpuMode ∨ m = .running) := by
  cases e with
  | down row k =>
    simp only [applyKeyEvent, keyDown, wakeFromStop]
    cases row <;> dsimp only [State.setRow] <;> (repeat' split) <;>
      first | exact ⟨_, _, _, _, rfl, .inl rfl⟩ | exact ⟨_, _, _, _, rfl, .inr rfl⟩
  | up row k => cases row <;> exact ⟨_, _, _, _, rfl, .inl rfl⟩

theorem applyKeyEvent_legal {s : State} (e : KeyEvent) (h : Legal s) : Legal (applyKeyEvent s e) := by
  obtain ⟨a, d, i, m, he, hm⟩ := applyKeyEvent_changes s e
  rw [he]
  refine ⟨h.storage.congr rfl rfl rfl rfl rfl rfl rfl rfl rfl, ⟨h.control.1, h.control.2, h.control.3, ?_⟩,
    ⟨h.device.1, h.device.2, h.device.3, h.device.4, h.device.5, h.device.6⟩⟩
  intro k pc byte hk
  rcases hm with rfl | rfl
  · exact h.control.faultedAt k pc byte hk
  · cases hk

theorem applyKeyEvents_legal : ∀ (es : List KeyEvent) {s : State}, Legal s → Legal (es.foldl applyKeyEvent s)
  | [], _, h => h
  | e :: es, _, h => applyKeyEvents_legal es (applyKeyEvent_legal e h)

theorem applyHostEvents_legal {s : State} (h : Legal s) : Legal (applyHostEvents s) := by
  unfold applyHostEvents
  split
  · exact h
  · exact applyKeyEvents_legal _ ⟨h.storage.congr rfl rfl rfl rfl rfl rfl rfl rfl rfl,
      ⟨h.control.1, h.control.2, h.control.3, h.control.4⟩,
      ⟨h.device.1, h.device.2, h.device.3, h.device.4, h.device.5, h.device.6⟩⟩

/-! ## The head of a step -/

/-- The head of a step sets the cycle count, whatever it was (R71; log 4). -/
theorem cpuStart_atCycles (s : State) (n : Nat) : cpuStart { s with cycles := n } = cpuStart s := rfl

theorem systemStep_atCycles (s : State) (n : Nat) : systemStep { s with cycles := n } = systemStep s := by
  rw [systemStep, cpuStart_atCycles, systemStep]

theorem cpuStart_running {s : State} (h : s.cpuMode = .running) :
    cpuStart s = .fetch (checkInterrupts { s with cycles := 0 }) := by
  unfold cpuStart
  split <;> simp_all

theorem cpuStart_stopped {s : State} (h : s.cpuMode = .stopped) : cpuStart s = .idle { s with cycles := Config.idleCycles } := by
  unfold cpuStart
  split <;> simp_all

theorem cpuStart_asleep {s : State} (h : s.cpuMode = .halted) (w : wakes s = false) :
    cpuStart s = .idle { s with cycles := Config.idleCycles } := by
  unfold cpuStart
  split <;> simp_all

theorem cpuStart_woken {s : State} (h : s.cpuMode = .halted) (w : wakes s = true) :
    cpuStart s = .fetch (checkInterrupts { s with cpuMode := .running, cycles := 0 }) := by
  unfold cpuStart
  split <;> simp_all

theorem cpuStart_faulted {s : State} {k : ExceptionKind} {pc : Word} {byte : Byte} (h : s.cpuMode = .faulted k pc byte) :
    cpuStart s = .noStep (.decodeErrorFaulted pc byte) := by
  unfold cpuStart
  split <;> simp_all

theorem heldByEi_of_eiPending {s : State} (h : s.eiPending = true) : heldByEi s = Config.eiHoldsDispatch := by
  simp [heldByEi, h]

theorem heldByEi_of_not_eiPending {s : State} (h : s.eiPending = false) : heldByEi s = false := by
  simp [heldByEi, h]

/-- A dispatch is held back by an EI exactly if one is pending and the machine is of the kind that holds it (log 21). -/
theorem heldByEi_eq_false {s : State} : heldByEi s = false ↔ (s.eiPending = true → Config.eiHoldsDispatch = false) := by
  cases h : s.eiPending <;> simp [heldByEi, h]

theorem checkInterrupts_none {s : State} (h : noDispatch s = true) : checkInterrupts s = s := by
  unfold checkInterrupts
  unfold noDispatch at h
  split
  · split
    · split <;> simp_all
    · rfl
  · rfl

theorem checkInterrupts_some {s : State} {i : IrqSource} (h : s.ime = true) (he : heldByEi s = false)
    (hp : pendingIrq s = some i) :
    checkInterrupts s = { dispatch i s with cycles := (dispatch i s).cycles + Config.dispatchCycles } := by
  unfold checkInterrupts
  rw [if_pos h, hp]
  simp [he]

theorem dispatch_busy (i : IrqSource) {s : State} (h : BusyLegal s) : BusyLegal (dispatch i s) := by
  have h1 := busyLegal_ops.push16 s.pc h
  unfold dispatch clearRequest
  dsimp only
  generalize push16 s.pc s = u at *
  exact { h1 with storage := h1.storage.congr rfl rfl rfl rfl rfl rfl rfl rfl rfl }

/-- All that the interrupt check can do: nothing, or the dispatch of the pending source with IME and no EI that holds it back. -/
theorem checkInterrupts_cases (s : State) : (noDispatch s = true ∧ checkInterrupts s = s) ∨
    ∃ i, s.ime = true ∧ heldByEi s = false ∧ pendingIrq s = some i ∧
      checkInterrupts s = { dispatch i s with cycles := (dispatch i s).cycles + Config.dispatchCycles } := by
  cases h : noDispatch s with
  | true => exact .inl ⟨rfl, checkInterrupts_none h⟩
  | false =>
    simp only [noDispatch, Bool.or_eq_false_iff, Bool.not_eq_false', Option.isNone_eq_false_iff] at h
    obtain ⟨i, hp⟩ := Option.isSome_iff_exists.mp h.1.2
    exact .inr ⟨i, h.1.1, h.2, hp, checkInterrupts_some h.1.1 h.2 hp⟩

theorem checkInterrupts_busy {s : State} (h : BusyLegal s) : BusyLegal (checkInterrupts s) := by
  obtain ⟨-, e⟩ | ⟨i, -, -, -, e⟩ := checkInterrupts_cases s <;> rw [e]
  · exact h
  · exact busyLegal_ops.cycles _ _ (dispatch_busy i h)

/-! ## The fetch -/

/-- What the decoder gives for the bytes at PC is what the fetch takes. -/
theorem fetchInstr_of_decode {s : State} {i : Instr} {rest : List Byte}
    (h : decode [memRead s s.pc, memRead s (s.pc + 1), memRead s (s.pc + 2)] = .ok (i, rest)) : fetchInstr s = i := by
  simp only [decode] at h
  split at h
  · cases h
  · simp at h
    exact h.1

/-! ## The end of a step -/

/-- The devices restore what a step may leave open. -/
theorem tickDevices_legal {s : State} (st : StorageLegal s) (co : ControlLegal s) (li : LinesLegal s)
    (mc : s.modeClock < modeLimit s.ppuMode) : Legal (tickDevices s) := by
  have st' : StorageLegal (tickDevices s) := by apply st.congr <;> simp
  have hL : LinesLegal (ppuStep s.cycles s) := by
    unfold ppuStep
    split
    · exact ppuLoop_lines _ _ ⟨li.1, li.2, li.3⟩
    · exact li
  refine ⟨st', ⟨by simpa using co.1, by simpa using co.2, by simpa using co.3, by simpa using co.4⟩, ?_, ?_, ?_,
    by simpa [tickDevices] using hL.1, by simpa [tickDevices] using hL.2, by simpa [tickDevices] using hL.3⟩
  · simp [tickDevices, timerTick, Config.divPeriod]
    omega
  · intro ht
    have ht' : s.tac.getLsbD 2 = true := by simpa using ht
    simp [tickDevices, timerTick, timaTick, ht', Nat.mod_lt _ (timaThreshold_pos _)]
  · simp [tickDevices]
    unfold ppuStep
    split
    · apply ppuLoop_clock
      simp only
      omega
    · exact mc

theorem tickDevices_of_busy {s : State} (h : BusyLegal s) : Legal (tickDevices s) :=
  tickDevices_legal h.storage ⟨h.flagsLow, h.romBankLow, h.bootPresent, fun k pc b hk => absurd hk (h.notFaulted k pc b)⟩
    ⟨h.lyLow, h.vblankLines, h.coincidenceNow⟩ h.modeClockLow

/-- A legal state is legal between the pieces of a step, whatever its cycle count, once it is not Faulted. -/
theorem Legal.busy {s : State} (h : Legal s) (m : CpuMode) (c : Nat) (hm : ∀ k pc b, m ≠ .faulted k pc b) :
    BusyLegal { s with cpuMode := m, cycles := c } where
  storage := h.storage.congr rfl rfl rfl rfl rfl rfl rfl rfl rfl
  flagsLow := h.control.flagsLow
  romBankLow := h.control.romBankLow
  bootPresent := h.control.bootPresent
  notFaulted := hm
  divAccLow := h.device.divAccLow
  modeClockLow := h.device.modeClockLow
  lyLow := h.device.lyLow
  vblankLines := h.device.vblankLines
  coincidenceNow := h.device.coincidenceNow

end Sys2Proof.Machine
end

