-- ==== Sys2Proof/Laws/Stack.lean ====
section
/-! SUPPORT. A bus write reads no register of the CPU, so it commutes with their updates; the stack operations as two bus writes
and SP. -/

namespace Sys2Proof.Machine

/-- The state with another SP, PC, control state of the CPU, cycle count and schedule. -/
def State.withCpu (s : State) (sp pc : Word) (ime eiPending : Bool) (mode : CpuMode) (cycles : Nat)
    (events : List (List KeyEvent)) : State :=
  { s with sp := sp, pc := pc, ime := ime, eiPending := eiPending, cpuMode := mode, cycles := cycles, hostEvents := events }

/-- LY meets LYC anew, enabled and with the LCD on: LCDStat is requested (60_exceptions.md R467). -/
theorem coincidenceUpdate_fires {s : State}
    (h : (decide (s.ly = s.lyc) && !s.coincidence && s.statEn.getLsbD 3 && s.lcdc.getLsbD 7) = true) :
    coincidenceUpdate s = { request .lcdStat s with coincidence := decide (s.ly = s.lyc) } := by
  unfold coincidenceUpdate
  dsimp only
  rw [if_pos h]

/-- Otherwise nothing is requested. -/
theorem coincidenceUpdate_quiet {s : State}
    (h : ¬(decide (s.ly = s.lyc) && !s.coincidence && s.statEn.getLsbD 3 && s.lcdc.getLsbD 7) = true) :
    coincidenceUpdate s = { s with coincidence := decide (s.ly = s.lyc) } := by
  unfold coincidenceUpdate
  dsimp only
  rw [if_neg h]

section Commute

variable (sp pc : Word) (ime ei : Bool) (mode : CpuMode) (cyc : Nat) (ev : List (List KeyEvent))

theorem dmaFold_withCpu (v : Byte) : ∀ (is : List Nat) (s : State),
    is.foldl (dmaByte v) (s.withCpu sp pc ime ei mode cyc ev) = (is.foldl (dmaByte v) s).withCpu sp pc ime ei mode cyc ev
  | [], _ => rfl
  | i :: is, s => dmaFold_withCpu v is (dmaByte v s i)

theorem oamDma_withCpu (v : Byte) (s : State) :
    oamDma v (s.withCpu sp pc ime ei mode cyc ev) = (oamDma v s).withCpu sp pc ime ei mode cyc ev :=
  dmaFold_withCpu sp pc ime ei mode cyc ev v _ s

theorem coincidenceUpdate_withCpu (s : State) :
    coincidenceUpdate (s.withCpu sp pc ime ei mode cyc ev) = (coincidenceUpdate s).withCpu sp pc ime ei mode cyc ev := by
  by_cases h : (decide (s.ly = s.lyc) && !s.coincidence && s.statEn.getLsbD 3 && s.lcdc.getLsbD 7) = true
  · rw [coincidenceUpdate_fires h]
    exact coincidenceUpdate_fires (s := s.withCpu sp pc ime ei mode cyc ev) h
  · rw [coincidenceUpdate_quiet h]
    exact coincidenceUpdate_quiet (s := s.withCpu sp pc ime ei mode cyc ev) h

theorem writeIo_withCpu (r : IoReg) (v : Byte) (s : State) :
    writeIo r v (s.withCpu sp pc ime ei mode cyc ev) = (writeIo r v s).withCpu sp pc ime ei mode cyc ev := by
  cases r
  case dma => exact oamDma_withCpu sp pc ime ei mode cyc ev v { s with dmaLast := v }
  case lyc => exact coincidenceUpdate_withCpu sp pc ime ei mode cyc ev { s with lyc := v }
  case boot =>
    simp only [writeIo]
    split <;> rfl
  all_goals rfl

theorem cartWrite_withCpu (addr : Word) (v : Byte) (s : State) :
    cartWrite addr v (s.withCpu sp pc ime ei mode cyc ev) = (cartWrite addr v s).withCpu sp pc ime ei mode cyc ev := by
  have h1 : (s.withCpu sp pc ime ei mode cyc ev).cartBanked = s.cartBanked := rfl
  have h2 : (s.withCpu sp pc ime ei mode cyc ev).bankingMode = s.bankingMode := rfl
  unfold cartWrite selectHigh
  rw [h1, h2]
  (repeat' split) <;> rfl

/-- A bus write takes nothing from the CPU's pc, sp, cycle count and control state, nor from the schedule, and leaves them. -/
theorem memWrite_withCpu (s : State) (addr : Word) (v : Byte) :
    memWrite (s.withCpu sp pc ime ei mode cyc ev) addr v = (memWrite s addr v).withCpu sp pc ime ei mode cyc ev := by
  have ht : busTarget (s.withCpu sp pc ime ei mode cyc ev) addr = busTarget s addr := rfl
  unfold memWrite
  rw [ht]
  generalize busTarget s addr = target
  cases target
  case io r => exact writeIo_withCpu sp pc ime ei mode cyc ev r v s
  case boot => exact cartWrite_withCpu sp pc ime ei mode cyc ev addr v s
  case rom => exact cartWrite_withCpu sp pc ime ei mode cyc ev addr v s
  all_goals rfl

end Commute

theorem withCpu_self (s : State) : s.withCpu s.sp s.pc s.ime s.eiPending s.cpuMode s.cycles s.hostEvents = s := rfl

/-- A bus write of a state with another SP. -/
theorem memWrite_atSp (s : State) (sp : Word) (addr : Word) (v : Byte) :
    memWrite { s with sp := sp } addr v = { memWrite s addr v with sp := sp } := by
  refine (memWrite_withCpu sp s.pc s.ime s.eiPending s.cpuMode s.cycles s.hostEvents s addr v).trans ?_
  rw [State.withCpu, ← memWrite_pc s addr v, ← memWrite_ime s addr v, ← memWrite_eiPending s addr v,
    ← memWrite_cpuMode s addr v, ← memWrite_cycles s addr v, ← memWrite_hostEvents s addr v]

/-- A bus write of a state with another cycle count. -/
theorem memWrite_atCycles (s : State) (cyc : Nat) (addr : Word) (v : Byte) :
    memWrite { s with cycles := cyc } addr v = { memWrite s addr v with cycles := cyc } := by
  refine (memWrite_withCpu s.sp s.pc s.ime s.eiPending s.cpuMode cyc s.hostEvents s addr v).trans ?_
  rw [State.withCpu, ← memWrite_pc s addr v, ← memWrite_ime s addr v, ← memWrite_eiPending s addr v,
    ← memWrite_cpuMode s addr v, ← memWrite_sp s addr v,
    ← memWrite_hostEvents s addr v]

/-- `push16` (40_loads.md R226) as two bus writes and SP. -/
theorem push16_eq (w : Word) (s : State) :
    push16 w s = { memWrite (memWrite s (s.sp - 1) (hi w)) (s.sp - 1 - 1) (lo w) with sp := s.sp - 1 - 1 } := by
  have e : memWrite { s with sp := s.sp - 1 } (s.sp - 1) (hi w) = { memWrite s (s.sp - 1) (hi w) with sp := s.sp - 1 } :=
    memWrite_atSp s (s.sp - 1) (s.sp - 1) (hi w)
  unfold push16
  dsimp only
  rw [e]
  exact memWrite_atSp (memWrite s (s.sp - 1) (hi w)) (s.sp - 1 - 1) (s.sp - 1 - 1) (lo w)

/-- A bus write of a state with another schedule. -/
theorem memWrite_atEvents (s : State) (ev : List (List KeyEvent)) (addr : Word) (v : Byte) :
    memWrite { s with hostEvents := ev } addr v = { memWrite s addr v with hostEvents := ev } := by
  refine (memWrite_withCpu s.sp s.pc s.ime s.eiPending s.cpuMode s.cycles ev s addr v).trans ?_
  rw [State.withCpu, ← memWrite_pc s addr v, ← memWrite_ime s addr v, ← memWrite_eiPending s addr v,
    ← memWrite_cpuMode s addr v, ← memWrite_sp s addr v, ← memWrite_cycles s addr v]

theorem push16_atEvents (w : Word) (s : State) (ev : List (List KeyEvent)) :
    push16 w { s with hostEvents := ev } = { push16 w s with hostEvents := ev } := by
  have e : memWrite { s with hostEvents := ev } (s.sp - 1) (hi w) = { memWrite s (s.sp - 1) (hi w) with hostEvents := ev } :=
    memWrite_atEvents s ev (s.sp - 1) (hi w)
  rw [push16_eq, push16_eq]
  dsimp only
  rw [e, memWrite_atEvents]

theorem push16_atCycles (w : Word) (s : State) (cyc : Nat) :
    push16 w { s with cycles := cyc } = { push16 w s with cycles := cyc } := by
  have e : memWrite { s with cycles := cyc } (s.sp - 1) (hi w) = { memWrite s (s.sp - 1) (hi w) with cycles := cyc } :=
    memWrite_atCycles s cyc (s.sp - 1) (hi w)
  rw [push16_eq, push16_eq]
  dsimp only
  rw [e, memWrite_atCycles]

theorem sub_one_one (w : Word) : w - 1 - 1 = w - 2 := by
  rw [BitVec.sub_sub]
  rfl

end Sys2Proof.Machine
end

