-- ==== Sys2Proof/Laws/Schedule.lean ====
section
/-! SUPPORT. Nothing in a step but its first act, the host's events, looks at the schedule of events or changes it: every part of a
step commutes with a change of the schedule. -/

namespace Sys2Proof.Machine

/-- The state with another schedule. -/
def State.withEvents (s : State) (ev : List (List KeyEvent)) : State := { s with hostEvents := ev }

/-- A result with another schedule in its next state. -/
def Result.withEvents (ev : List (List KeyEvent)) : Result → Result
  | .next t => .next (t.withEvents ev)
  | .fault r => .fault r
  | .refused r => .refused r

/-! ## Instructions -/

theorem memWrite16_withEvents (s : State) (ev : List (List KeyEvent)) (addr w : Word) :
    memWrite16 (s.withEvents ev) addr w = (memWrite16 s addr w).withEvents ev :=
  (congrArg (fun u => memWrite u (addr + 1) (hi w)) (memWrite_atEvents s ev addr (lo w))).trans
    (memWrite_atEvents (memWrite s addr (lo w)) ev (addr + 1) (hi w))

theorem writeLoc_withEvents (s : State) (ev : List (List KeyEvent)) (loc : Loc8) (v : Byte) :
    writeLoc (s.withEvents ev) loc v = (writeLoc s loc v).withEvents ev := by
  cases loc with
  | reg r => cases r <;> rfl
  | indHl => exact memWrite_atEvents s ev s.hl v

theorem readLoc_withEvents (s : State) (ev : List (List KeyEvent)) (loc : Loc8) : readLoc (s.withEvents ev) loc = readLoc s loc := by
  cases loc with
  | reg r => cases r <;> rfl
  | indHl => rfl

theorem rotLoc_withEvents (op : RotOp) (loc : Loc8) (s : State) (ev : List (List KeyEvent)) :
    rotLoc op loc (s.withEvents ev) = Result.withEvents ev (rotLoc op loc s) := by
  simp only [rotLoc, readLoc_withEvents, writeLoc_withEvents]
  rfl

theorem bitBit_withEvents (bit : Nat) (loc : Loc8) (s : State) (ev : List (List KeyEvent)) :
    bitBit bit loc (s.withEvents ev) = Result.withEvents ev (bitBit bit loc s) := by
  simp only [bitBit, readLoc_withEvents]
  rfl

theorem resBit_withEvents (bit : Nat) (loc : Loc8) (s : State) (ev : List (List KeyEvent)) :
    resBit bit loc (s.withEvents ev) = Result.withEvents ev (resBit bit loc s) := by
  simp only [resBit, readLoc_withEvents, writeLoc_withEvents]
  rfl

theorem setBit_withEvents (bit : Nat) (loc : Loc8) (s : State) (ev : List (List KeyEvent)) :
    setBit bit loc (s.withEvents ev) = Result.withEvents ev (setBit bit loc s) := by
  simp only [setBit, readLoc_withEvents, writeLoc_withEvents]
  rfl

theorem execCbByte_withEvents (b2 : Byte) (s : State) (ev : List (List KeyEvent)) :
    execCbByte b2 (s.withEvents ev) = Result.withEvents ev (execCbByte b2 s) := by
  unfold execCbByte
  split
  · exact rotLoc_withEvents _ _ s ev
  · exact bitBit_withEvents _ _ s ev
  · exact resBit_withEvents _ _ s ev
  · exact setBit_withEvents _ _ s ev

theorem jumpAbs_withEvents (taken : Bool) (nn : Word) (c1 c2 : Nat) (s : State) (ev : List (List KeyEvent)) :
    jumpAbs taken nn c1 c2 (s.withEvents ev) = Result.withEvents ev (jumpAbs taken nn c1 c2 s) := by
  cases taken <;> rfl

theorem jumpRel_withEvents (taken : Bool) (e : Byte) (c1 c2 : Nat) (s : State) (ev : List (List KeyEvent)) :
    jumpRel taken e c1 c2 (s.withEvents ev) = Result.withEvents ev (jumpRel taken e c1 c2 s) := by
  cases taken <;> rfl

theorem callAbs_withEvents (taken : Bool) (nn : Word) (c1 c2 : Nat) (s : State) (ev : List (List KeyEvent)) :
    callAbs taken nn c1 c2 (s.withEvents ev) = Result.withEvents ev (callAbs taken nn c1 c2 s) := by
  cases taken
  · rfl
  · exact congrArg (fun u : State => retire c1 { u with pc := nn }) (push16_atEvents (s.pc + 3) s ev)

theorem returnIf_withEvents (taken : Bool) (c1 c2 : Nat) (s : State) (ev : List (List KeyEvent)) :
    returnIf taken c1 c2 (s.withEvents ev) = Result.withEvents ev (returnIf taken c1 c2 s) := by
  cases taken <;> rfl

theorem restart_withEvents (target : Word) (s : State) (ev : List (List KeyEvent)) :
    restart target (s.withEvents ev) = Result.withEvents ev (restart target s) :=
  congrArg (fun u : State => retire 16 { u with pc := target }) (push16_atEvents (s.pc + 1) s ev)

/-! A store, and what its instruction does after it. -/

section Stores

variable (addr : Word) (v : Byte) (w : Word) (fl : Flags) (len cyc : Nat) (s : State) (ev : List (List KeyEvent))

theorem retireStore_withEvents : retire cyc (advance len (memWrite (s.withEvents ev) addr v)) =
    Result.withEvents ev (retire cyc (advance len (memWrite s addr v))) :=
  congrArg (fun u => retire cyc (advance len u)) (memWrite_atEvents s ev addr v)

theorem retireStoreHl_withEvents : retire cyc (advance len ((memWrite (s.withEvents ev) addr v).setHl w)) =
    Result.withEvents ev (retire cyc (advance len ((memWrite s addr v).setHl w))) :=
  congrArg (fun u => retire cyc (advance len (State.setHl u w))) (memWrite_atEvents s ev addr v)

theorem retireStoreFlags_withEvents : retire cyc (advance len ((memWrite (s.withEvents ev) addr v).setFlags fl)) =
    Result.withEvents ev (retire cyc (advance len ((memWrite s addr v).setFlags fl))) :=
  congrArg (fun u => retire cyc (advance len (State.setFlags u fl))) (memWrite_atEvents s ev addr v)

theorem retireStore16_withEvents : retire cyc (advance len (memWrite16 (s.withEvents ev) addr w)) =
    Result.withEvents ev (retire cyc (advance len (memWrite16 s addr w))) :=
  congrArg (fun u => retire cyc (advance len u)) (memWrite16_withEvents s ev addr w)

theorem retirePush_withEvents : retire cyc (advance len (push16 w (s.withEvents ev))) =
    Result.withEvents ev (retire cyc (advance len (push16 w s))) :=
  congrArg (fun u => retire cyc (advance len u)) (push16_atEvents w s ev)

end Stores

/-- No instruction looks at the schedule or changes it. -/
theorem exec_withEvents (i : Instr) (s : State) (ev : List (List KeyEvent)) :
    exec i (s.withEvents ev) = Result.withEvents ev (exec i s) := by
  cases i
  case rlc_b | rlc_c | rlc_d | rlc_e | rlc_h | rlc_l | rlc_indHl | rlc_a | rrc_b | rrc_c | rrc_d | rrc_e |
      rrc_h | rrc_l | rrc_indHl | rrc_a | rl_b | rl_c | rl_d | rl_e | rl_h | rl_l | rl_indHl | rl_a | rr_b |
      rr_c | rr_d | rr_e | rr_h | rr_l | rr_indHl | rr_a | sla_b | sla_c | sla_d | sla_e | sla_h | sla_l |
      sla_indHl | sla_a | sra_b | sra_c | sra_d | sra_e | sra_h | sra_l | sra_indHl | sra_a | swap_b |
      swap_c | swap_d | swap_e | swap_h | swap_l | swap_indHl | swap_a | srl_b | srl_c | srl_d | srl_e |
      srl_h | srl_l | srl_indHl | srl_a =>
    exact rotLoc_withEvents _ _ s ev
  case res_0_b | res_0_c | res_0_d | res_0_e | res_0_h | res_0_l | res_0_indHl | res_0_a | res_1_b |
      res_1_c | res_1_d | res_1_e | res_1_h | res_1_l | res_1_indHl | res_1_a | res_2_b | res_2_c |
      res_2_d | res_2_e | res_2_h | res_2_l | res_2_indHl | res_2_a | res_3_b | res_3_c | res_3_d |
      res_3_e | res_3_h | res_3_l | res_3_indHl | res_3_a | res_4_b | res_4_c | res_4_d | res_4_e |
      res_4_h | res_4_l | res_4_indHl | res_4_a | res_5_b | res_5_c | res_5_d | res_5_e | res_5_h |
      res_5_l | res_5_indHl | res_5_a | res_6_b | res_6_c | res_6_d | res_6_e | res_6_h | res_6_l |
      res_6_indHl | res_6_a | res_7_b | res_7_c | res_7_d | res_7_e | res_7_h | res_7_l | res_7_indHl |
      res_7_a =>
    exact resBit_withEvents _ _ s ev
  case set_0_b | set_0_c | set_0_d | set_0_e | set_0_h | set_0_l | set_0_indHl | set_0_a | set_1_b |
      set_1_c | set_1_d | set_1_e | set_1_h | set_1_l | set_1_indHl | set_1_a | set_2_b | set_2_c |
      set_2_d | set_2_e | set_2_h | set_2_l | set_2_indHl | set_2_a | set_3_b | set_3_c | set_3_d |
      set_3_e | set_3_h | set_3_l | set_3_indHl | set_3_a | set_4_b | set_4_c | set_4_d | set_4_e |
      set_4_h | set_4_l | set_4_indHl | set_4_a | set_5_b | set_5_c | set_5_d | set_5_e | set_5_h |
      set_5_l | set_5_indHl | set_5_a | set_6_b | set_6_c | set_6_d | set_6_e | set_6_h | set_6_l |
      set_6_indHl | set_6_a | set_7_b | set_7_c | set_7_d | set_7_e | set_7_h | set_7_l | set_7_indHl |
      set_7_a =>
    exact setBit_withEvents _ _ s ev
  case prefix_cb =>
    exact execCbByte_withEvents _ s ev
  case jp_nz_nn | jp_z_nn | jp_nc_nn | jp_c_nn =>
    exact jumpAbs_withEvents _ _ _ _ s ev
  case jr_nz_e | jr_z_e | jr_nc_e | jr_c_e =>
    exact jumpRel_withEvents _ _ _ _ s ev
  case call_nn =>
    exact callAbs_withEvents true _ 24 12 s ev
  case call_nz_nn | call_z_nn | call_nc_nn | call_c_nn =>
    exact callAbs_withEvents _ _ _ _ s ev
  case ret_nz | ret_z | ret_nc | ret_c =>
    exact returnIf_withEvents _ _ _ s ev
  case rst_00 | rst_08 | rst_10 | rst_18 | rst_20 | rst_28 | rst_30 | rst_38 =>
    exact restart_withEvents _ s ev
  case push_bc | push_de | push_hl | push_af =>
    exact retirePush_withEvents _ _ _ s ev
  case ld_indHl_n | ldh_indN_a | ld_indNn_a | ld_indBc_a | ld_indDe_a | ld_indC_a | ld_indHl_b | ld_indHl_c |
      ld_indHl_d | ld_indHl_e | ld_indHl_h | ld_indHl_l | ld_indHl_a =>
    exact retireStore_withEvents _ _ _ _ s ev
  case ld_indHlInc_a | ld_indHlDec_a =>
    exact retireStoreHl_withEvents _ _ _ _ _ s ev
  case inc_indHl | dec_indHl =>
    exact retireStoreFlags_withEvents _ _ _ _ _ s ev
  case ld_indNn_sp =>
    exact retireStore16_withEvents _ _ _ _ s ev
  all_goals rfl

/-! ## The other parts of a step -/

theorem checkInterrupts_withEvents (s : State) (ev : List (List KeyEvent)) :
    checkInterrupts (s.withEvents ev) = (checkInterrupts s).withEvents ev := by
  have hd : ∀ i, dispatch i (s.withEvents ev) = (dispatch i s).withEvents ev := fun i =>
    congrArg (fun u : State => { clearRequest i { u with ime := false, eiPending := false } with pc := irqVector i })
      (push16_atEvents s.pc s ev)
  have hp : pendingIrq (s.withEvents ev) = pendingIrq s := rfl
  have hi : (s.withEvents ev).ime = s.ime := rfl
  have he : heldByEi (s.withEvents ev) = heldByEi s := rfl
  unfold checkInterrupts
  rw [hp, hi, he]
  simp only [hd]
  (repeat' split) <;> rfl

/-- What a step comes to before its fetch, with another schedule. -/
def StepStart.withEvents (ev : List (List KeyEvent)) : StepStart → StepStart
  | .noStep r => .noStep r
  | .idle s => .idle (s.withEvents ev)
  | .fetch s => .fetch (s.withEvents ev)

theorem cpuStart_withEvents (s : State) (ev : List (List KeyEvent)) :
    cpuStart (s.withEvents ev) = (cpuStart s).withEvents ev := by
  have hw : wakes (s.withEvents ev) = wakes s := rfl
  have hm : (s.withEvents ev).cpuMode = s.cpuMode := rfl
  unfold cpuStart
  rw [hm, hw]
  split
  · rfl
  · rfl
  · split
    · exact congrArg StepStart.fetch (checkInterrupts_withEvents { s with cpuMode := .running, cycles := 0 } ev)
    · rfl
  · exact congrArg StepStart.fetch (checkInterrupts_withEvents { s with cycles := 0 } ev)

theorem eiLatch_withEvents (i : Instr) (s : State) (ev : List (List KeyEvent)) :
    eiLatch i (s.withEvents ev) = (eiLatch i s).withEvents ev := by
  have h : (s.withEvents ev).eiPending = s.eiPending := rfl
  unfold eiLatch
  rw [h]
  split
  · rfl
  · rfl
  · split <;> rfl

theorem timaIncrements_withEvents (ev : List (List KeyEvent)) : ∀ (n : Nat) (s : State),
    timaIncrements n (s.withEvents ev) = (timaIncrements n s).withEvents ev
  | 0, _ => rfl
  | n + 1, s => by
    have h : timaIncrement (s.withEvents ev) = (timaIncrement s).withEvents ev := by
      unfold timaIncrement
      split <;> split <;> first | rfl | contradiction
    rw [timaIncrements, timaIncrements, h, timaIncrements_withEvents ev n]

theorem timerTick_withEvents (cyc : Nat) (s : State) (ev : List (List KeyEvent)) :
    timerTick cyc (s.withEvents ev) = (timerTick cyc s).withEvents ev := by
  have hd : divTick cyc (s.withEvents ev) = (divTick cyc s).withEvents ev := rfl
  rw [timerTick, timerTick, hd]
  generalize divTick cyc s = u
  have ht : (u.withEvents ev).tac = u.tac := rfl
  unfold timaTick
  rw [ht]
  split
  · exact timaIncrements_withEvents ev _ { u with timaAcc := (u.timaAcc + cyc) % timaThreshold u.tac }
  · rfl

theorem coincidenceUpdate_withEvents (s : State) (ev : List (List KeyEvent)) :
    coincidenceUpdate (s.withEvents ev) = (coincidenceUpdate s).withEvents ev :=
  (coincidenceUpdate_withCpu s.sp s.pc s.ime s.eiPending s.cpuMode s.cycles ev s).trans (by
    rw [State.withCpu, ← coincidenceUpdate_sp s, ← coincidenceUpdate_pc s, ← coincidenceUpdate_ime s,
      ← coincidenceUpdate_eiPending s, ← coincidenceUpdate_cpuMode s, ← coincidenceUpdate_cycles s]
    rfl)

theorem ppuTransition_withEvents (s : State) (ev : List (List KeyEvent)) :
    ppuTransition (s.withEvents ev) = (ppuTransition s).withEvents ev := by
  have hm : (s.withEvents ev).ppuMode = s.ppuMode := rfl
  have hh : ∀ u : State, leaveHblank (u.withEvents ev) = (leaveHblank u).withEvents ev := fun u => by
    have e := coincidenceUpdate_withEvents { u with ly := u.ly + 1 } ev
    have e' : coincidenceUpdate { u.withEvents ev with ly := (u.withEvents ev).ly + 1 } =
      (coincidenceUpdate { u with ly := u.ly + 1 }).withEvents ev := e
    unfold leaveHblank
    rw [e']
    generalize coincidenceUpdate { u with ly := u.ly + 1 } = w
    have h1 : (w.withEvents ev).ly = w.ly := rfl
    dsimp only
    rw [h1]
    split
    · split <;> split <;> rename_i ha hb <;> first | rfl | exact absurd ha hb | exact absurd hb ha
    · rfl
  have hv : ∀ u : State, leaveVblank (u.withEvents ev) = (leaveVblank u).withEvents ev := fun u => by
    have h1 : (u.withEvents ev).ly = u.ly := rfl
    unfold leaveVblank
    rw [h1]
    split
    · exact coincidenceUpdate_withEvents { u with ly := 0#8, ppuMode := .oamScan } ev
    · exact coincidenceUpdate_withEvents { u with ly := u.ly + 1 } ev
  have hd : ∀ u : State, leaveDrawLine (u.withEvents ev) = (leaveDrawLine u).withEvents ev := fun u => by
    have e : renderLine (u.withEvents ev).ly.toNat (u.withEvents ev) = (renderLine u.ly.toNat u).withEvents ev := rfl
    unfold leaveDrawLine
    rw [e]
    generalize renderLine u.ly.toNat u = w
    have h1 : ({ w.withEvents ev with ppuMode := .hblank } : State).statEn = w.statEn := rfl
    have h2 : ({ w with ppuMode := .hblank } : State).statEn = w.statEn := rfl
    dsimp only
    split <;> split <;> first | rfl | contradiction
  unfold ppuTransition
  rw [hm]
  dsimp only
  split
  · rfl
  · exact hd { s with modeClock := s.modeClock - modeLimit s.ppuMode }
  · exact hh { s with modeClock := s.modeClock - modeLimit s.ppuMode }
  · exact hv { s with modeClock := s.modeClock - modeLimit s.ppuMode }

theorem ppuLoop_withEvents (ev : List (List KeyEvent)) : ∀ (fuel : Nat) (s : State),
    ppuLoop fuel (s.withEvents ev) = (ppuLoop fuel s).withEvents ev
  | 0, _ => rfl
  | fuel + 1, s => by
    have hm : (s.withEvents ev).ppuMode = s.ppuMode := rfl
    have hc : (s.withEvents ev).modeClock = s.modeClock := rfl
    rw [ppuLoop, ppuLoop, hm, hc]
    split
    · rw [ppuTransition_withEvents, ppuLoop_withEvents ev fuel]
    · rfl

theorem ppuStep_withEvents (cyc : Nat) (s : State) (ev : List (List KeyEvent)) :
    ppuStep cyc (s.withEvents ev) = (ppuStep cyc s).withEvents ev := by
  have hl : (s.withEvents ev).lcdc = s.lcdc := rfl
  have hc : (s.withEvents ev).modeClock = s.modeClock := rfl
  unfold ppuStep
  rw [hl, hc]
  split
  · exact ppuLoop_withEvents ev _ { s with modeClock := s.modeClock + cyc }
  · rfl

theorem tickDevices_withEvents (s : State) (ev : List (List KeyEvent)) :
    tickDevices (s.withEvents ev) = (tickDevices s).withEvents ev :=
  (congrArg (timerTick s.cycles) (ppuStep_withEvents s.cycles s ev)).trans (timerTick_withEvents s.cycles _ ev)

theorem finishStep_withEvents (i : Instr) (r : Result) (ev : List (List KeyEvent)) :
    finishStep i (Result.withEvents ev r) = Result.withEvents ev (finishStep i r) := by
  cases r with
  | next t =>
    show Host.Outcome.next (tickDevices (eiLatch i (t.withEvents ev))) = .next ((tickDevices (eiLatch i t)).withEvents ev)
    rw [eiLatch_withEvents, tickDevices_withEvents]
  | fault r => rfl
  | refused r => rfl

/-- After the host's events a step neither looks at the schedule nor changes it. -/
theorem systemStep_withEvents (s : State) (ev : List (List KeyEvent)) :
    systemStep (s.withEvents ev) = Result.withEvents ev (systemStep s) := by
  unfold systemStep
  rw [cpuStart_withEvents]
  cases cpuStart s with
  | noStep r => rfl
  | idle u => exact congrArg Host.Outcome.next (tickDevices_withEvents u ev)
  | fetch u =>
    have hf : fetchInstr (u.withEvents ev) = fetchInstr u := rfl
    show finishStep (fetchInstr (u.withEvents ev)) (exec (fetchInstr (u.withEvents ev)) (u.withEvents ev)) = _
    rw [hf, exec_withEvents, finishStep_withEvents]

/-! ## The events themselves -/

theorem applyKeyEvent_withEvents (s : State) (e : KeyEvent) (ev : List (List KeyEvent)) :
    applyKeyEvent (s.withEvents ev) e = (applyKeyEvent s e).withEvents ev := by
  cases e with
  | up row k => cases row <;> rfl
  | down row k =>
    have hr : (s.withEvents ev).row row = s.row row := by cases row <;> rfl
    have hs : ∀ v, (s.withEvents ev).setRow row v = (s.setRow row v).withEvents ev := fun v => by cases row <;> rfl
    have hw : ∀ u : State, wakeFromStop (u.withEvents ev) = (wakeFromStop u).withEvents ev := fun u => by
      have hm : (u.withEvents ev).cpuMode = u.cpuMode := rfl
      unfold wakeFromStop
      rw [hm]
      split <;> rfl
    simp only [applyKeyEvent, keyDown, hr, hs]
    split
    · exact hw (request .joypad (s.setRow row _))
    · exact hw (s.setRow row _)

theorem foldEvents_withEvents (ev : List (List KeyEvent)) : ∀ (batch : List KeyEvent) (s : State),
    batch.foldl applyKeyEvent (s.withEvents ev) = (batch.foldl applyKeyEvent s).withEvents ev
  | [], _ => rfl
  | e :: batch, s => by
    rw [List.foldl_cons, applyKeyEvent_withEvents, foldEvents_withEvents ev batch]
    rfl

end Sys2Proof.Machine
end

