-- ==== Sys2Proof/Tests/Slice0.lean ====
section
/-! SUPPORT. The model's own tests. Expected results are those of spec/: the opcode maps of 30_encoding.md R148 and R149, the
vectors of 95_test_vectors.md (each test carries its vector's number), and, at the end, for every statement with hypotheses a
state and operands that meet them. -/

namespace Sys2Proof.Tests

open Sys2Proof Sys2Proof.Machine Sys2Proof.Rows

/-- The instruction that a whole list of bytes holds. -/
def decoded (bytes : List Byte) : Option Instr :=
  match decode bytes with
  | .ok (i, []) => some i
  | _ => none

/-- The start state of 95_test_vectors.md: the machine after reset. -/
def start : State := State.reset

/-- The state after one step from `s` with `bytes` at PC satisfies `p`. -/
def afterStep (bytes : List Byte) (s : State) (p : State → Bool) : Bool :=
  match step (placeInstr s (bytes.getD 0 0#8, bytes.getD 1 0#8, bytes.getD 2 0#8)) with
  | .next t => p t
  | _ => false

/-! ## WellFormed: the two constructors with ill-formed terms (R150, R395) -/

theorem test_wf_undefined_refused : (Instr.undefined 0x00#8).wf = false ∧ (Instr.undefined 0xD4#8).wf = false := by decide
theorem test_wf_prefix_refused : (Instr.prefix_cb 0x00#8).wf = false := by decide
theorem test_wf_accepts : (Instr.undefined 0xD3#8).wf = true ∧ (Instr.stop 0x5A#8).wf = true := by decide

/-! ## Decoding: every constructor, by the words of the maps -/

theorem test_decode_truncated : decode [] = .error .noBytes ∧ decode [0xCB#8] = .error (.truncated 2 1) ∧
    decode [0xC3#8, 0x00#8] = .error (.truncated 3 2) := by decide
theorem test_table_word_one_byte : decodeTableWord 8 0x3C = some .inc_a ∧ decodeTableWord 8 0xC3 = some (.jp_nn 0#16) := by decide
theorem test_table_word_cb : decodeTableWord 16 0xCB37 = some .swap_a := by decide
theorem test_table_word_operands : decodeTableWord 24 0x1234C3 = some (.jp_nn 0x1234#16) := by decide
theorem test_with_fetch_word : (match step (State.reset.withFetchWord 16 0xCBF8) with
    | .next t => t.b == 0x80#8 && t.pc == 0x0102#16
    | _ => false) = true := by decide

/-! The one-byte map (R148). -/

theorem test_decode_0 : [[0x00#8], [0x01#8, 0x34#8, 0x12#8], [0x02#8], [0x03#8], [0x04#8], [0x05#8], [0x06#8, 0xA5#8], [0x07#8],
    [0x08#8, 0x34#8, 0x12#8], [0x09#8], [0x0A#8], [0x0B#8], [0x0C#8], [0x0D#8], [0x0E#8, 0xA5#8], [0x0F#8]].map decoded =
  [.nop, .ld_bc_nn 0x1234#16, .ld_indBc_a, .inc_bc, .inc_b, .dec_b, .ld_b_n 0xA5#8, .rlca, .ld_indNn_sp 0x1234#16,
    .add_hl_bc, .ld_a_indBc, .dec_bc, .inc_c, .dec_c, .ld_c_n 0xA5#8, .rrca].map some := by decide
theorem test_decode_1 : [[0x10#8, 0xA5#8], [0x11#8, 0x34#8, 0x12#8], [0x12#8], [0x13#8], [0x14#8], [0x15#8], [0x16#8, 0xA5#8], [0x17#8],
    [0x18#8, 0xA5#8], [0x19#8], [0x1A#8], [0x1B#8], [0x1C#8], [0x1D#8], [0x1E#8, 0xA5#8], [0x1F#8]].map decoded =
  [.stop 0xA5#8, .ld_de_nn 0x1234#16, .ld_indDe_a, .inc_de, .inc_d, .dec_d, .ld_d_n 0xA5#8, .rla, .jr_e 0xA5#8,
    .add_hl_de, .ld_a_indDe, .dec_de, .inc_e, .dec_e, .ld_e_n 0xA5#8, .rra].map some := by decide
theorem test_decode_2 : [[0x20#8, 0xA5#8], [0x21#8, 0x34#8, 0x12#8], [0x22#8], [0x23#8], [0x24#8], [0x25#8], [0x26#8, 0xA5#8], [0x27#8],
    [0x28#8, 0xA5#8], [0x29#8], [0x2A#8], [0x2B#8], [0x2C#8], [0x2D#8], [0x2E#8, 0xA5#8], [0x2F#8]].map decoded =
  [.jr_nz_e 0xA5#8, .ld_hl_nn 0x1234#16, .ld_indHlInc_a, .inc_hl, .inc_h, .dec_h, .ld_h_n 0xA5#8, .daa,
    .jr_z_e 0xA5#8, .add_hl_hl, .ld_a_indHlInc, .dec_hl, .inc_l, .dec_l, .ld_l_n 0xA5#8, .cpl].map some := by decide
theorem test_decode_3 : [[0x30#8, 0xA5#8], [0x31#8, 0x34#8, 0x12#8], [0x32#8], [0x33#8], [0x34#8], [0x35#8], [0x36#8, 0xA5#8], [0x37#8],
    [0x38#8, 0xA5#8], [0x39#8], [0x3A#8], [0x3B#8], [0x3C#8], [0x3D#8], [0x3E#8, 0xA5#8], [0x3F#8]].map decoded =
  [.jr_nc_e 0xA5#8, .ld_sp_nn 0x1234#16, .ld_indHlDec_a, .inc_sp, .inc_indHl, .dec_indHl, .ld_indHl_n 0xA5#8,
    .scf, .jr_c_e 0xA5#8, .add_hl_sp, .ld_a_indHlDec, .dec_sp, .inc_a, .dec_a, .ld_a_n 0xA5#8, .ccf].map some := by decide
theorem test_decode_4 : [[0x40#8], [0x41#8], [0x42#8], [0x43#8], [0x44#8], [0x45#8], [0x46#8], [0x47#8], [0x48#8], [0x49#8], [0x4A#8],
    [0x4B#8], [0x4C#8], [0x4D#8], [0x4E#8], [0x4F#8]].map decoded =
  [.ld_b_b, .ld_b_c, .ld_b_d, .ld_b_e, .ld_b_h, .ld_b_l, .ld_b_indHl, .ld_b_a, .ld_c_b, .ld_c_c, .ld_c_d, .ld_c_e,
    .ld_c_h, .ld_c_l, .ld_c_indHl, .ld_c_a].map some := by decide
theorem test_decode_5 : [[0x50#8], [0x51#8], [0x52#8], [0x53#8], [0x54#8], [0x55#8], [0x56#8], [0x57#8], [0x58#8], [0x59#8], [0x5A#8],
    [0x5B#8], [0x5C#8], [0x5D#8], [0x5E#8], [0x5F#8]].map decoded =
  [.ld_d_b, .ld_d_c, .ld_d_d, .ld_d_e, .ld_d_h, .ld_d_l, .ld_d_indHl, .ld_d_a, .ld_e_b, .ld_e_c, .ld_e_d, .ld_e_e,
    .ld_e_h, .ld_e_l, .ld_e_indHl, .ld_e_a].map some := by decide
theorem test_decode_6 : [[0x60#8], [0x61#8], [0x62#8], [0x63#8], [0x64#8], [0x65#8], [0x66#8], [0x67#8], [0x68#8], [0x69#8], [0x6A#8],
    [0x6B#8], [0x6C#8], [0x6D#8], [0x6E#8], [0x6F#8]].map decoded =
  [.ld_h_b, .ld_h_c, .ld_h_d, .ld_h_e, .ld_h_h, .ld_h_l, .ld_h_indHl, .ld_h_a, .ld_l_b, .ld_l_c, .ld_l_d, .ld_l_e,
    .ld_l_h, .ld_l_l, .ld_l_indHl, .ld_l_a].map some := by decide
theorem test_decode_7 : [[0x70#8], [0x71#8], [0x72#8], [0x73#8], [0x74#8], [0x75#8], [0x76#8], [0x77#8], [0x78#8], [0x79#8], [0x7A#8],
    [0x7B#8], [0x7C#8], [0x7D#8], [0x7E#8], [0x7F#8]].map decoded =
  [.ld_indHl_b, .ld_indHl_c, .ld_indHl_d, .ld_indHl_e, .ld_indHl_h, .ld_indHl_l, .halt, .ld_indHl_a, .ld_a_b,
    .ld_a_c, .ld_a_d, .ld_a_e, .ld_a_h, .ld_a_l, .ld_a_indHl, .ld_a_a].map some := by decide
theorem test_decode_8 : [[0x80#8], [0x81#8], [0x82#8], [0x83#8], [0x84#8], [0x85#8], [0x86#8], [0x87#8], [0x88#8], [0x89#8], [0x8A#8],
    [0x8B#8], [0x8C#8], [0x8D#8], [0x8E#8], [0x8F#8]].map decoded =
  [.add_a_b, .add_a_c, .add_a_d, .add_a_e, .add_a_h, .add_a_l, .add_a_indHl, .add_a_a, .adc_a_b, .adc_a_c,
    .adc_a_d, .adc_a_e, .adc_a_h, .adc_a_l, .adc_a_indHl, .adc_a_a].map some := by decide
theorem test_decode_9 : [[0x90#8], [0x91#8], [0x92#8], [0x93#8], [0x94#8], [0x95#8], [0x96#8], [0x97#8], [0x98#8], [0x99#8], [0x9A#8],
    [0x9B#8], [0x9C#8], [0x9D#8], [0x9E#8], [0x9F#8]].map decoded =
  [.sub_b, .sub_c, .sub_d, .sub_e, .sub_h, .sub_l, .sub_indHl, .sub_a, .sbc_a_b, .sbc_a_c, .sbc_a_d, .sbc_a_e,
    .sbc_a_h, .sbc_a_l, .sbc_a_indHl, .sbc_a_a].map some := by decide
theorem test_decode_A : [[0xA0#8], [0xA1#8], [0xA2#8], [0xA3#8], [0xA4#8], [0xA5#8], [0xA6#8], [0xA7#8], [0xA8#8], [0xA9#8], [0xAA#8],
    [0xAB#8], [0xAC#8], [0xAD#8], [0xAE#8], [0xAF#8]].map decoded =
  [.and_b, .and_c, .and_d, .and_e, .and_h, .and_l, .and_indHl, .and_a, .xor_b, .xor_c, .xor_d, .xor_e, .xor_h,
    .xor_l, .xor_indHl, .xor_a].map some := by decide
theorem test_decode_B : [[0xB0#8], [0xB1#8], [0xB2#8], [0xB3#8], [0xB4#8], [0xB5#8], [0xB6#8], [0xB7#8], [0xB8#8], [0xB9#8], [0xBA#8],
    [0xBB#8], [0xBC#8], [0xBD#8], [0xBE#8], [0xBF#8]].map decoded =
  [.or_b, .or_c, .or_d, .or_e, .or_h, .or_l, .or_indHl, .or_a, .cp_b, .cp_c, .cp_d, .cp_e, .cp_h, .cp_l,
    .cp_indHl, .cp_a].map some := by decide
theorem test_decode_C : [[0xC0#8], [0xC1#8], [0xC2#8, 0x34#8, 0x12#8], [0xC3#8, 0x34#8, 0x12#8], [0xC4#8, 0x34#8, 0x12#8], [0xC5#8],
    [0xC6#8, 0xA5#8], [0xC7#8], [0xC8#8], [0xC9#8], [0xCA#8, 0x34#8, 0x12#8], [0xCC#8, 0x34#8, 0x12#8],
    [0xCD#8, 0x34#8, 0x12#8], [0xCE#8, 0xA5#8], [0xCF#8]].map decoded =
  [.ret_nz, .pop_bc, .jp_nz_nn 0x1234#16, .jp_nn 0x1234#16, .call_nz_nn 0x1234#16, .push_bc, .add_a_n 0xA5#8,
    .rst_00, .ret_z, .ret, .jp_z_nn 0x1234#16, .call_z_nn 0x1234#16, .call_nn 0x1234#16, .adc_a_n 0xA5#8, .rst_08].map some := by decide
theorem test_decode_D : [[0xD0#8], [0xD1#8], [0xD2#8, 0x34#8, 0x12#8], [0xD3#8], [0xD4#8, 0x34#8, 0x12#8], [0xD5#8], [0xD6#8, 0xA5#8],
    [0xD7#8], [0xD8#8], [0xD9#8], [0xDA#8, 0x34#8, 0x12#8], [0xDB#8], [0xDC#8, 0x34#8, 0x12#8], [0xDD#8],
    [0xDE#8, 0xA5#8], [0xDF#8]].map decoded =
  [.ret_nc, .pop_de, .jp_nc_nn 0x1234#16, .undefined 0xD3#8, .call_nc_nn 0x1234#16, .push_de, .sub_n 0xA5#8,
    .rst_10, .ret_c, .reti, .jp_c_nn 0x1234#16, .undefined 0xDB#8, .call_c_nn 0x1234#16, .undefined 0xDD#8,
    .sbc_a_n 0xA5#8, .rst_18].map some := by decide
theorem test_decode_E : [[0xE0#8, 0xA5#8], [0xE1#8], [0xE2#8], [0xE3#8], [0xE4#8], [0xE5#8], [0xE6#8, 0xA5#8], [0xE7#8],
    [0xE8#8, 0xA5#8], [0xE9#8], [0xEA#8, 0x34#8, 0x12#8], [0xEB#8], [0xEC#8], [0xED#8], [0xEE#8, 0xA5#8], [0xEF#8]].map decoded =
  [.ldh_indN_a 0xA5#8, .pop_hl, .ld_indC_a, .undefined 0xE3#8, .undefined 0xE4#8, .push_hl, .and_n 0xA5#8,
    .rst_20, .add_sp_e 0xA5#8, .jp_hl, .ld_indNn_a 0x1234#16, .undefined 0xEB#8, .undefined 0xEC#8,
    .undefined 0xED#8, .xor_n 0xA5#8, .rst_28].map some := by decide
theorem test_decode_F : [[0xF0#8, 0xA5#8], [0xF1#8], [0xF2#8], [0xF3#8], [0xF4#8], [0xF5#8], [0xF6#8, 0xA5#8], [0xF7#8],
    [0xF8#8, 0xA5#8], [0xF9#8], [0xFA#8, 0x34#8, 0x12#8], [0xFB#8], [0xFC#8], [0xFD#8], [0xFE#8, 0xA5#8], [0xFF#8]].map decoded =
  [.ldh_a_indN 0xA5#8, .pop_af, .ld_a_indC, .di, .undefined 0xF4#8, .push_af, .or_n 0xA5#8, .rst_30,
    .ld_hl_spE 0xA5#8, .ld_sp_hl, .ld_a_indNn 0x1234#16, .ei, .undefined 0xFC#8, .undefined 0xFD#8, .cp_n 0xA5#8,
    .rst_38].map some := by decide

/-! The CB map (R149). -/

theorem test_decode_cb_0 : [[0xCB#8, 0x00#8], [0xCB#8, 0x01#8], [0xCB#8, 0x02#8], [0xCB#8, 0x03#8], [0xCB#8, 0x04#8], [0xCB#8, 0x05#8],
    [0xCB#8, 0x06#8], [0xCB#8, 0x07#8], [0xCB#8, 0x08#8], [0xCB#8, 0x09#8], [0xCB#8, 0x0A#8], [0xCB#8, 0x0B#8],
    [0xCB#8, 0x0C#8], [0xCB#8, 0x0D#8], [0xCB#8, 0x0E#8], [0xCB#8, 0x0F#8]].map decoded =
  [.rlc_b, .rlc_c, .rlc_d, .rlc_e, .rlc_h, .rlc_l, .rlc_indHl, .rlc_a, .rrc_b, .rrc_c, .rrc_d, .rrc_e, .rrc_h,
    .rrc_l, .rrc_indHl, .rrc_a].map some := by decide
theorem test_decode_cb_1 : [[0xCB#8, 0x10#8], [0xCB#8, 0x11#8], [0xCB#8, 0x12#8], [0xCB#8, 0x13#8], [0xCB#8, 0x14#8], [0xCB#8, 0x15#8],
    [0xCB#8, 0x16#8], [0xCB#8, 0x17#8], [0xCB#8, 0x18#8], [0xCB#8, 0x19#8], [0xCB#8, 0x1A#8], [0xCB#8, 0x1B#8],
    [0xCB#8, 0x1C#8], [0xCB#8, 0x1D#8], [0xCB#8, 0x1E#8], [0xCB#8, 0x1F#8]].map decoded =
  [.rl_b, .rl_c, .rl_d, .rl_e, .rl_h, .rl_l, .rl_indHl, .rl_a, .rr_b, .rr_c, .rr_d, .rr_e, .rr_h, .rr_l,
    .rr_indHl, .rr_a].map some := by decide
theorem test_decode_cb_2 : [[0xCB#8, 0x20#8], [0xCB#8, 0x21#8], [0xCB#8, 0x22#8], [0xCB#8, 0x23#8], [0xCB#8, 0x24#8], [0xCB#8, 0x25#8],
    [0xCB#8, 0x26#8], [0xCB#8, 0x27#8], [0xCB#8, 0x28#8], [0xCB#8, 0x29#8], [0xCB#8, 0x2A#8], [0xCB#8, 0x2B#8],
    [0xCB#8, 0x2C#8], [0xCB#8, 0x2D#8], [0xCB#8, 0x2E#8], [0xCB#8, 0x2F#8]].map decoded =
  [.sla_b, .sla_c, .sla_d, .sla_e, .sla_h, .sla_l, .sla_indHl, .sla_a, .sra_b, .sra_c, .sra_d, .sra_e, .sra_h,
    .sra_l, .sra_indHl, .sra_a].map some := by decide
theorem test_decode_cb_3 : [[0xCB#8, 0x30#8], [0xCB#8, 0x31#8], [0xCB#8, 0x32#8], [0xCB#8, 0x33#8], [0xCB#8, 0x34#8], [0xCB#8, 0x35#8],
    [0xCB#8, 0x36#8], [0xCB#8, 0x37#8], [0xCB#8, 0x38#8], [0xCB#8, 0x39#8], [0xCB#8, 0x3A#8], [0xCB#8, 0x3B#8],
    [0xCB#8, 0x3C#8], [0xCB#8, 0x3D#8], [0xCB#8, 0x3E#8], [0xCB#8, 0x3F#8]].map decoded =
  [.swap_b, .swap_c, .swap_d, .swap_e, .swap_h, .swap_l, .swap_indHl, .swap_a, .srl_b, .srl_c, .srl_d, .srl_e,
    .srl_h, .srl_l, .srl_indHl, .srl_a].map some := by decide
theorem test_decode_cb_4 : [[0xCB#8, 0x40#8], [0xCB#8, 0x41#8], [0xCB#8, 0x42#8], [0xCB#8, 0x43#8], [0xCB#8, 0x44#8], [0xCB#8, 0x45#8],
    [0xCB#8, 0x46#8], [0xCB#8, 0x47#8], [0xCB#8, 0x48#8], [0xCB#8, 0x49#8], [0xCB#8, 0x4A#8], [0xCB#8, 0x4B#8],
    [0xCB#8, 0x4C#8], [0xCB#8, 0x4D#8], [0xCB#8, 0x4E#8], [0xCB#8, 0x4F#8]].map decoded =
  [.bit_0_b, .bit_0_c, .bit_0_d, .bit_0_e, .bit_0_h, .bit_0_l, .bit_0_indHl, .bit_0_a, .bit_1_b, .bit_1_c,
    .bit_1_d, .bit_1_e, .bit_1_h, .bit_1_l, .bit_1_indHl, .bit_1_a].map some := by decide
theorem test_decode_cb_5 : [[0xCB#8, 0x50#8], [0xCB#8, 0x51#8], [0xCB#8, 0x52#8], [0xCB#8, 0x53#8], [0xCB#8, 0x54#8], [0xCB#8, 0x55#8],
    [0xCB#8, 0x56#8], [0xCB#8, 0x57#8], [0xCB#8, 0x58#8], [0xCB#8, 0x59#8], [0xCB#8, 0x5A#8], [0xCB#8, 0x5B#8],
    [0xCB#8, 0x5C#8], [0xCB#8, 0x5D#8], [0xCB#8, 0x5E#8], [0xCB#8, 0x5F#8]].map decoded =
  [.bit_2_b, .bit_2_c, .bit_2_d, .bit_2_e, .bit_2_h, .bit_2_l, .bit_2_indHl, .bit_2_a, .bit_3_b, .bit_3_c,
    .bit_3_d, .bit_3_e, .bit_3_h, .bit_3_l, .bit_3_indHl, .bit_3_a].map some := by decide
theorem test_decode_cb_6 : [[0xCB#8, 0x60#8], [0xCB#8, 0x61#8], [0xCB#8, 0x62#8], [0xCB#8, 0x63#8], [0xCB#8, 0x64#8], [0xCB#8, 0x65#8],
    [0xCB#8, 0x66#8], [0xCB#8, 0x67#8], [0xCB#8, 0x68#8], [0xCB#8, 0x69#8], [0xCB#8, 0x6A#8], [0xCB#8, 0x6B#8],
    [0xCB#8, 0x6C#8], [0xCB#8, 0x6D#8], [0xCB#8, 0x6E#8], [0xCB#8, 0x6F#8]].map decoded =
  [.bit_4_b, .bit_4_c, .bit_4_d, .bit_4_e, .bit_4_h, .bit_4_l, .bit_4_indHl, .bit_4_a, .bit_5_b, .bit_5_c,
    .bit_5_d, .bit_5_e, .bit_5_h, .bit_5_l, .bit_5_indHl, .bit_5_a].map some := by decide
theorem test_decode_cb_7 : [[0xCB#8, 0x70#8], [0xCB#8, 0x71#8], [0xCB#8, 0x72#8], [0xCB#8, 0x73#8], [0xCB#8, 0x74#8], [0xCB#8, 0x75#8],
    [0xCB#8, 0x76#8], [0xCB#8, 0x77#8], [0xCB#8, 0x78#8], [0xCB#8, 0x79#8], [0xCB#8, 0x7A#8], [0xCB#8, 0x7B#8],
    [0xCB#8, 0x7C#8], [0xCB#8, 0x7D#8], [0xCB#8, 0x7E#8], [0xCB#8, 0x7F#8]].map decoded =
  [.bit_6_b, .bit_6_c, .bit_6_d, .bit_6_e, .bit_6_h, .bit_6_l, .bit_6_indHl, .bit_6_a, .bit_7_b, .bit_7_c,
    .bit_7_d, .bit_7_e, .bit_7_h, .bit_7_l, .bit_7_indHl, .bit_7_a].map some := by decide
theorem test_decode_cb_8 : [[0xCB#8, 0x80#8], [0xCB#8, 0x81#8], [0xCB#8, 0x82#8], [0xCB#8, 0x83#8], [0xCB#8, 0x84#8], [0xCB#8, 0x85#8],
    [0xCB#8, 0x86#8], [0xCB#8, 0x87#8], [0xCB#8, 0x88#8], [0xCB#8, 0x89#8], [0xCB#8, 0x8A#8], [0xCB#8, 0x8B#8],
    [0xCB#8, 0x8C#8], [0xCB#8, 0x8D#8], [0xCB#8, 0x8E#8], [0xCB#8, 0x8F#8]].map decoded =
  [.res_0_b, .res_0_c, .res_0_d, .res_0_e, .res_0_h, .res_0_l, .res_0_indHl, .res_0_a, .res_1_b, .res_1_c,
    .res_1_d, .res_1_e, .res_1_h, .res_1_l, .res_1_indHl, .res_1_a].map some := by decide
theorem test_decode_cb_9 : [[0xCB#8, 0x90#8], [0xCB#8, 0x91#8], [0xCB#8, 0x92#8], [0xCB#8, 0x93#8], [0xCB#8, 0x94#8], [0xCB#8, 0x95#8],
    [0xCB#8, 0x96#8], [0xCB#8, 0x97#8], [0xCB#8, 0x98#8], [0xCB#8, 0x99#8], [0xCB#8, 0x9A#8], [0xCB#8, 0x9B#8],
    [0xCB#8, 0x9C#8], [0xCB#8, 0x9D#8], [0xCB#8, 0x9E#8], [0xCB#8, 0x9F#8]].map decoded =
  [.res_2_b, .res_2_c, .res_2_d, .res_2_e, .res_2_h, .res_2_l, .res_2_indHl, .res_2_a, .res_3_b, .res_3_c,
    .res_3_d, .res_3_e, .res_3_h, .res_3_l, .res_3_indHl, .res_3_a].map some := by decide
theorem test_decode_cb_A : [[0xCB#8, 0xA0#8], [0xCB#8, 0xA1#8], [0xCB#8, 0xA2#8], [0xCB#8, 0xA3#8], [0xCB#8, 0xA4#8], [0xCB#8, 0xA5#8],
    [0xCB#8, 0xA6#8], [0xCB#8, 0xA7#8], [0xCB#8, 0xA8#8], [0xCB#8, 0xA9#8], [0xCB#8, 0xAA#8], [0xCB#8, 0xAB#8],
    [0xCB#8, 0xAC#8], [0xCB#8, 0xAD#8], [0xCB#8, 0xAE#8], [0xCB#8, 0xAF#8]].map decoded =
  [.res_4_b, .res_4_c, .res_4_d, .res_4_e, .res_4_h, .res_4_l, .res_4_indHl, .res_4_a, .res_5_b, .res_5_c,
    .res_5_d, .res_5_e, .res_5_h, .res_5_l, .res_5_indHl, .res_5_a].map some := by decide
theorem test_decode_cb_B : [[0xCB#8, 0xB0#8], [0xCB#8, 0xB1#8], [0xCB#8, 0xB2#8], [0xCB#8, 0xB3#8], [0xCB#8, 0xB4#8], [0xCB#8, 0xB5#8],
    [0xCB#8, 0xB6#8], [0xCB#8, 0xB7#8], [0xCB#8, 0xB8#8], [0xCB#8, 0xB9#8], [0xCB#8, 0xBA#8], [0xCB#8, 0xBB#8],
    [0xCB#8, 0xBC#8], [0xCB#8, 0xBD#8], [0xCB#8, 0xBE#8], [0xCB#8, 0xBF#8]].map decoded =
  [.res_6_b, .res_6_c, .res_6_d, .res_6_e, .res_6_h, .res_6_l, .res_6_indHl, .res_6_a, .res_7_b, .res_7_c,
    .res_7_d, .res_7_e, .res_7_h, .res_7_l, .res_7_indHl, .res_7_a].map some := by decide
theorem test_decode_cb_C : [[0xCB#8, 0xC0#8], [0xCB#8, 0xC1#8], [0xCB#8, 0xC2#8], [0xCB#8, 0xC3#8], [0xCB#8, 0xC4#8], [0xCB#8, 0xC5#8],
    [0xCB#8, 0xC6#8], [0xCB#8, 0xC7#8], [0xCB#8, 0xC8#8], [0xCB#8, 0xC9#8], [0xCB#8, 0xCA#8], [0xCB#8, 0xCB#8],
    [0xCB#8, 0xCC#8], [0xCB#8, 0xCD#8], [0xCB#8, 0xCE#8], [0xCB#8, 0xCF#8]].map decoded =
  [.set_0_b, .set_0_c, .set_0_d, .set_0_e, .set_0_h, .set_0_l, .set_0_indHl, .set_0_a, .set_1_b, .set_1_c,
    .set_1_d, .set_1_e, .set_1_h, .set_1_l, .set_1_indHl, .set_1_a].map some := by decide
theorem test_decode_cb_D : [[0xCB#8, 0xD0#8], [0xCB#8, 0xD1#8], [0xCB#8, 0xD2#8], [0xCB#8, 0xD3#8], [0xCB#8, 0xD4#8], [0xCB#8, 0xD5#8],
    [0xCB#8, 0xD6#8], [0xCB#8, 0xD7#8], [0xCB#8, 0xD8#8], [0xCB#8, 0xD9#8], [0xCB#8, 0xDA#8], [0xCB#8, 0xDB#8],
    [0xCB#8, 0xDC#8], [0xCB#8, 0xDD#8], [0xCB#8, 0xDE#8], [0xCB#8, 0xDF#8]].map decoded =
  [.set_2_b, .set_2_c, .set_2_d, .set_2_e, .set_2_h, .set_2_l, .set_2_indHl, .set_2_a, .set_3_b, .set_3_c,
    .set_3_d, .set_3_e, .set_3_h, .set_3_l, .set_3_indHl, .set_3_a].map some := by decide
theorem test_decode_cb_E : [[0xCB#8, 0xE0#8], [0xCB#8, 0xE1#8], [0xCB#8, 0xE2#8], [0xCB#8, 0xE3#8], [0xCB#8, 0xE4#8], [0xCB#8, 0xE5#8],
    [0xCB#8, 0xE6#8], [0xCB#8, 0xE7#8], [0xCB#8, 0xE8#8], [0xCB#8, 0xE9#8], [0xCB#8, 0xEA#8], [0xCB#8, 0xEB#8],
    [0xCB#8, 0xEC#8], [0xCB#8, 0xED#8], [0xCB#8, 0xEE#8], [0xCB#8, 0xEF#8]].map decoded =
  [.set_4_b, .set_4_c, .set_4_d, .set_4_e, .set_4_h, .set_4_l, .set_4_indHl, .set_4_a, .set_5_b, .set_5_c,
    .set_5_d, .set_5_e, .set_5_h, .set_5_l, .set_5_indHl, .set_5_a].map some := by decide
theorem test_decode_cb_F : [[0xCB#8, 0xF0#8], [0xCB#8, 0xF1#8], [0xCB#8, 0xF2#8], [0xCB#8, 0xF3#8], [0xCB#8, 0xF4#8], [0xCB#8, 0xF5#8],
    [0xCB#8, 0xF6#8], [0xCB#8, 0xF7#8], [0xCB#8, 0xF8#8], [0xCB#8, 0xF9#8], [0xCB#8, 0xFA#8], [0xCB#8, 0xFB#8],
    [0xCB#8, 0xFC#8], [0xCB#8, 0xFD#8], [0xCB#8, 0xFE#8], [0xCB#8, 0xFF#8]].map decoded =
  [.set_6_b, .set_6_c, .set_6_d, .set_6_e, .set_6_h, .set_6_l, .set_6_indHl, .set_6_a, .set_7_b, .set_7_c,
    .set_7_d, .set_7_e, .set_7_h, .set_7_l, .set_7_indHl, .set_7_a].map some := by decide

/-! Loads: part V1 -/

theorem test_v1_1_ld_b_a : (afterStep [0x47#8]
    { start with a := 0x9C#8 }
    fun t => t.b == 0x9C#8 && t.f == 0xB0#8 && t.cycles == 4) = true := by decide
theorem test_v1_2_ld_h_h : (afterStep [0x64#8]
    { start with h := 0x12#8, l := 0x34#8 }
    fun t => t.hl == 0x1234#16 && t.cycles == 4) = true := by decide
theorem test_v1_3_ld_l_indHl : (afterStep [0x6E#8]
    { (placeByte start 0xC123#16 0x99#8) with h := 0xC1#8, l := 0x23#8 }
    fun t => t.hl == 0xC199#16 && t.cycles == 8) = true := by decide
theorem test_v1_4_ld_indHl_h : (afterStep [0x74#8]
    { start with h := 0xC1#8, l := 0x23#8 }
    fun t => memRead t 0xC123#16 == 0xC1#8 && t.cycles == 8) = true := by decide
theorem test_v1_5_ld_l_n : (afterStep [0x2E#8, 0xAA#8]
    start
    fun t => t.l == 0xAA#8 && t.pc == 0x0102#16 && t.cycles == 8) = true := by decide
theorem test_v1_6_ld_indHl_n : (afterStep [0x36#8, 0x5A#8]
    { start with h := 0xC1#8, l := 0x23#8 }
    fun t => memRead t 0xC123#16 == 0x5A#8 && t.cycles == 12) = true := by decide
theorem test_v1_7_ld_a_indBc : (afterStep [0x0A#8]
    { (placeByte start 0xC100#16 0x07#8) with b := 0xC1#8, c := 0x00#8 }
    fun t => t.a == 0x07#8 && t.cycles == 8) = true := by decide
theorem test_v1_8_ld_indNn_a : (afterStep [0xEA#8, 0x00#8, 0xC0#8]
    { start with a := 0x42#8 }
    fun t => memRead t 0xC000#16 == 0x42#8 && t.pc == 0x0103#16 && t.cycles == 16) = true := by decide
theorem test_v1_9_ld_a_indNn : (afterStep [0xFA#8, 0x44#8, 0xFF#8]
    start
    fun t => t.a == 0x00#8 && t.cycles == 16) = true := by decide
theorem test_v1_10_ldh_a_n : (afterStep [0xF0#8, 0x0F#8]
    start
    fun t => t.a == 0xE1#8 && t.cycles == 12) = true := by decide
theorem test_v1_11_ldh_n_a : (afterStep [0xE0#8, 0x80#8]
    { start with a := 0x77#8 }
    fun t => memRead t 0xFF80#16 == 0x77#8 && t.cycles == 12) = true := by decide
theorem test_v1_12_ld_a_indC : (afterStep [0xF2#8]
    { start with c := 0xFF#8, ieReg := 0x15#5 }
    fun t => t.a == 0x15#8 && t.cycles == 8) = true := by decide
theorem test_v1_13_ld_indC_a : (afterStep [0xE2#8]
    { start with c := 0x80#8, a := 0x05#8 }
    fun t => memRead t 0xFF80#16 == 0x05#8 && t.cycles == 8) = true := by decide
theorem test_v1_14_ld_a_hlInc : (afterStep [0x2A#8]
    { (placeByte start 0xC000#16 0xAB#8) with h := 0xC0#8, l := 0x00#8 }
    fun t => t.a == 0xAB#8 && t.hl == 0xC001#16 && t.cycles == 8) = true := by decide
theorem test_v1_15_ld_a_hlDec : (afterStep [0x3A#8]
    { (placeByte start 0xC001#16 0xCD#8) with h := 0xC0#8, l := 0x01#8 }
    fun t => t.a == 0xCD#8 && t.hl == 0xC000#16 && t.cycles == 8) = true := by decide
theorem test_v1_16_ld_hlInc_a : (afterStep [0x22#8]
    { start with h := 0xFF#8, l := 0xFF#8, a := 0x1F#8 }
    fun t => t.ieReg == 0x1F#5 && t.hl == 0x0000#16 && t.cycles == 8) = true := by decide
theorem test_v1_17_ld_hlDec_a : (afterStep [0x32#8]
    { start with h := 0x00#8, l := 0x00#8, a := 0x12#8 }
    fun t => memRead t 0x0000#16 == 0x00#8 && t.hl == 0xFFFF#16 && t.cycles == 8) = true := by decide
theorem test_v1_18_ld_bc_nn : (afterStep [0x01#8, 0x34#8, 0x12#8]
    start
    fun t => t.bc == 0x1234#16 && t.pc == 0x0103#16 && t.cycles == 12) = true := by decide
theorem test_v1_19_ld_sp_hl : (afterStep [0xF9#8]
    { start with h := 0xDF#8, l := 0xF0#8 }
    fun t => t.sp == 0xDFF0#16 && t.cycles == 8) = true := by decide
theorem test_v1_20_ld_indNn_sp : (afterStep [0x08#8, 0x00#8, 0xC1#8]
    { start with sp := 0xFFF8#16 }
    fun t => memRead t 0xC100#16 == 0xF8#8 && memRead t 0xC101#16 == 0xFF#8 && t.cycles == 20) = true := by decide
theorem test_v1_21_ld_indNn_sp : (afterStep [0x08#8, 0xFF#8, 0xFF#8]
    { start with sp := 0x1234#16 }
    fun t => t.ieReg == 0x14#5 && memRead t 0x0000#16 == 0x00#8 && t.cycles == 20) = true := by decide
theorem test_v1_22_push_bc : (afterStep [0xC5#8]
    start
    fun t => t.sp == 0xFFFC#16 && memRead t 0xFFFD#16 == 0x00#8 && memRead t 0xFFFC#16 == 0x13#8 && t.cycles == 16) = true := by decide
theorem test_v1_23_pop_af : (afterStep [0xF1#8]
    { (placeByte (placeByte start 0xC100#16 0xFF#8) 0xC101#16 0x12#8) with sp := 0xC100#16 }
    fun t => t.a == 0x12#8 && t.f == 0xF0#8 && t.sp == 0xC102#16 && t.cycles == 12) = true := by decide
theorem test_v1_24_push_af : (afterStep [0xF5#8]
    { start with a := 0x12#8, f := 0xF0#8 }
    fun t => memRead t 0xFFFC#16 == 0xF0#8 && memRead t 0xFFFD#16 == 0x12#8 && t.cycles == 16) = true := by decide
theorem test_v1_25_push_hl : (afterStep [0xE5#8]
    { start with h := 0xBE#8, l := 0xEF#8, sp := 0x0001#16 }
    fun t => t.ieReg == 0x0F#5 && t.sp == 0xFFFF#16 && memRead t 0x0000#16 == 0x00#8 && t.cycles == 16) = true := by decide
theorem test_v1_26_pop_bc : (afterStep [0xC1#8]
    { (placeByte start 0xFFFE#16 0x11#8) with sp := 0xFFFE#16 }
    fun t => t.bc == 0x0011#16 && t.sp == 0x0000#16 && t.cycles == 12) = true := by decide

/-! 8-bit arithmetic: part V2, W2, W3 -/

theorem test_v2_1_add_a_n : (afterStep [0xC6#8, 0xC6#8]
    { start with a := 0x3A#8, f := 0x00#8 }
    fun t => t.a == 0x00#8 && t.f == 0xB0#8 && t.cycles == 8) = true := by decide
theorem test_v2_3_add_a_b : (afterStep [0x80#8]
    { start with a := 0x12#8, f := 0x00#8, b := 0x34#8 }
    fun t => t.a == 0x46#8 && t.f == 0x00#8 && t.cycles == 4) = true := by decide
theorem test_v2_4_add_a_a : (afterStep [0x87#8]
    { start with a := 0x80#8, f := 0x00#8 }
    fun t => t.a == 0x00#8 && t.f == 0x90#8 && t.cycles == 4) = true := by decide
theorem test_v2_5_adc_a_n : (afterStep [0xCE#8, 0x01#8]
    { start with a := 0xFE#8, f := 0x10#8 }
    fun t => t.a == 0x00#8 && t.f == 0xB0#8 && t.cycles == 8) = true := by decide
theorem test_v2_7_adc_a_n : (afterStep [0xCE#8, 0xFF#8]
    { start with a := 0xFF#8, f := 0x10#8 }
    fun t => t.a == 0xFF#8 && t.f == 0x30#8 && t.cycles == 8) = true := by decide
theorem test_v2_9_sub_n : (afterStep [0xD6#8, 0x01#8]
    { start with a := 0x00#8, f := 0x00#8 }
    fun t => t.a == 0xFF#8 && t.f == 0x70#8 && t.cycles == 8) = true := by decide
theorem test_v2_10_sub_n : (afterStep [0xD6#8, 0x40#8]
    { start with a := 0x3E#8, f := 0x00#8 }
    fun t => t.a == 0xFE#8 && t.f == 0x50#8 && t.cycles == 8) = true := by decide
theorem test_v2_11_sbc_a_n : (afterStep [0xDE#8, 0x0F#8]
    { start with a := 0x10#8, f := 0x10#8 }
    fun t => t.a == 0x00#8 && t.f == 0xE0#8 && t.cycles == 8) = true := by decide
theorem test_v2_12_sbc_a_n : (afterStep [0xDE#8, 0xFF#8]
    { start with a := 0x00#8, f := 0x10#8 }
    fun t => t.a == 0x00#8 && t.f == 0xF0#8 && t.cycles == 8) = true := by decide
theorem test_v2_14_and_n : (afterStep [0xE6#8, 0xA5#8]
    { start with a := 0x5A#8, f := 0x10#8 }
    fun t => t.a == 0x00#8 && t.f == 0xA0#8 && t.cycles == 8) = true := by decide
theorem test_v2_16_xor_a : (afterStep [0xAF#8]
    { start with a := 0x77#8, f := 0x70#8 }
    fun t => t.a == 0x00#8 && t.f == 0x80#8 && t.cycles == 4) = true := by decide
theorem test_v2_18_or_n : (afterStep [0xF6#8, 0x03#8]
    { start with a := 0x10#8, f := 0xF0#8 }
    fun t => t.a == 0x13#8 && t.f == 0x00#8 && t.cycles == 8) = true := by decide
theorem test_v2_19_cp_n : (afterStep [0xFE#8, 0x2F#8]
    { start with a := 0x3C#8, f := 0x00#8 }
    fun t => t.a == 0x3C#8 && t.f == 0x60#8 && t.cycles == 8) = true := by decide
theorem test_v2_21_cp_n : (afterStep [0xFE#8, 0x40#8]
    { start with a := 0x3C#8, f := 0x00#8 }
    fun t => t.a == 0x3C#8 && t.f == 0x50#8 && t.cycles == 8) = true := by decide
theorem test_v2_22_inc_a : (afterStep [0x3C#8]
    { start with a := 0xFF#8, f := 0x10#8 }
    fun t => t.a == 0x00#8 && t.f == 0xB0#8 && t.cycles == 4) = true := by decide
theorem test_v2_23_inc_a : (afterStep [0x3C#8]
    { start with a := 0x0F#8, f := 0x40#8 }
    fun t => t.a == 0x10#8 && t.f == 0x20#8 && t.cycles == 4) = true := by decide
theorem test_v2_25_dec_a : (afterStep [0x3D#8]
    { start with a := 0x00#8, f := 0x00#8 }
    fun t => t.a == 0xFF#8 && t.f == 0x60#8 && t.cycles == 4) = true := by decide
theorem test_v2_26_dec_a : (afterStep [0x3D#8]
    { start with a := 0x10#8, f := 0x10#8 }
    fun t => t.a == 0x0F#8 && t.f == 0x70#8 && t.cycles == 4) = true := by decide
theorem test_v2_27_cpl : (afterStep [0x2F#8]
    { start with a := 0x35#8, f := 0x90#8 }
    fun t => t.a == 0xCA#8 && t.f == 0xF0#8 && t.cycles == 4) = true := by decide
theorem test_v2_28_scf : (afterStep [0x37#8]
    { start with a := 0x00#8, f := 0xE0#8 }
    fun t => t.a == 0x00#8 && t.f == 0x90#8 && t.cycles == 4) = true := by decide
theorem test_v2_29_ccf : (afterStep [0x3F#8]
    { start with a := 0x00#8, f := 0xF0#8 }
    fun t => t.a == 0x00#8 && t.f == 0x80#8 && t.cycles == 4) = true := by decide
theorem test_v2_30_ccf : (afterStep [0x3F#8]
    { start with a := 0x00#8, f := 0x80#8 }
    fun t => t.a == 0x00#8 && t.f == 0x90#8 && t.cycles == 4) = true := by decide
theorem test_w3_9a_daa : (afterStep [0x27#8]
    { start with a := 0x9A#8, f := 0x00#8 }
    fun t => t.a == 0x00#8 && t.f == 0x90#8 && t.cycles == 4) = true := by decide
theorem test_w3_70_daa : (afterStep [0x27#8]
    { start with a := 0x00#8, f := 0x70#8 }
    fun t => t.a == 0x9A#8 && t.f == 0x50#8 && t.cycles == 4) = true := by decide
theorem test_v2_31_inc_indHl : (afterStep [0x34#8]
    { (placeByte start 0xC000#16 0xFF#8) with h := 0xC0#8, l := 0x00#8, f := 0x00#8 }
    fun t => memRead t 0xC000#16 == 0x00#8 && t.f == 0xA0#8 && t.cycles == 12) = true := by decide
theorem test_v2_32_dec_indHl : (afterStep [0x35#8]
    { (placeByte start 0xC000#16 0x00#8) with h := 0xC0#8, l := 0x00#8, f := 0x10#8 }
    fun t => memRead t 0xC000#16 == 0xFF#8 && t.f == 0x70#8 && t.cycles == 12) = true := by decide
theorem test_v2_33_add_a_indHl : (afterStep [0x86#8]
    { (placeByte start 0x0150#16 0xFF#8) with h := 0x01#8, l := 0x50#8, f := 0x00#8, a := 0x01#8 }
    fun t => t.a == 0x00#8 && t.f == 0xB0#8 && t.cycles == 8) = true := by decide

/-! 16-bit arithmetic: part V3 -/

theorem test_v3_1_inc_bc : (afterStep [0x03#8]
    { start with b := 0xFF#8, c := 0xFF#8, f := 0x00#8 }
    fun t => t.bc == 0x0000#16 && t.f == 0x00#8 && t.cycles == 8) = true := by decide
theorem test_v3_2_dec_de : (afterStep [0x1B#8]
    { start with d := 0x00#8, e := 0x00#8, f := 0xF0#8 }
    fun t => t.de == 0xFFFF#16 && t.f == 0xF0#8 && t.cycles == 8) = true := by decide
theorem test_v3_3_add_hl_bc : (afterStep [0x09#8]
    { start with h := 0x8A#8, l := 0x23#8, b := 0x06#8, c := 0x05#8, f := 0x80#8 }
    fun t => t.hl == 0x9028#16 && t.f == 0xA0#8 && t.cycles == 8) = true := by decide
theorem test_v3_4_add_hl_hl : (afterStep [0x29#8]
    { start with h := 0x80#8, l := 0x00#8, f := 0x00#8 }
    fun t => t.hl == 0x0000#16 && t.f == 0x10#8 && t.cycles == 8) = true := by decide
theorem test_v3_5_add_hl_de : (afterStep [0x19#8]
    { start with h := 0x0F#8, l := 0xFF#8, d := 0x00#8, e := 0x01#8, f := 0x00#8 }
    fun t => t.hl == 0x1000#16 && t.f == 0x20#8 && t.cycles == 8) = true := by decide
theorem test_v3_6_add_hl_sp : (afterStep [0x39#8]
    { start with h := 0xFF#8, l := 0xFF#8, sp := 0x0001#16, f := 0x00#8 }
    fun t => t.hl == 0x0000#16 && t.f == 0x30#8 && t.cycles == 8) = true := by decide
theorem test_v3_7_add_sp_e : (afterStep [0xE8#8, 0xFF#8]
    { start with sp := 0x0001#16, f := 0xF0#8 }
    fun t => t.sp == 0x0000#16 && t.f == 0x30#8 && t.cycles == 16) = true := by decide
theorem test_v3_9_add_sp_e : (afterStep [0xE8#8, 0x80#8]
    { start with sp := 0x0000#16, f := 0xF0#8 }
    fun t => t.sp == 0xFF80#16 && t.f == 0x00#8 && t.cycles == 16) = true := by decide
theorem test_v3_11_ld_hl_spE : (afterStep [0xF8#8, 0x02#8]
    { start with sp := 0xFFF8#16, f := 0xF0#8 }
    fun t => t.hl == 0xFFFA#16 && t.sp == 0xFFF8#16 && t.f == 0x00#8 && t.cycles == 12) = true := by decide
theorem test_v3_12_ld_hl_spE : (afterStep [0xF8#8, 0xFF#8]
    { start with sp := 0x00FF#16, f := 0x00#8 }
    fun t => t.hl == 0x00FE#16 && t.f == 0x30#8 && t.cycles == 12) = true := by decide

/-! Rotates, shifts and bits: part V4 -/

theorem test_v4_1_rlca : (afterStep [0x07#8]
    { start with a := 0x85#8, f := 0x80#8 }
    fun t => t.a == 0x0B#8 && t.f == 0x10#8 && t.cycles == 4) = true := by decide
theorem test_v4_2_rrca : (afterStep [0x0F#8]
    { start with a := 0x01#8, f := 0x80#8 }
    fun t => t.a == 0x80#8 && t.f == 0x10#8 && t.cycles == 4) = true := by decide
theorem test_v4_3_rla : (afterStep [0x17#8]
    { start with a := 0x80#8, f := 0x00#8 }
    fun t => t.a == 0x00#8 && t.f == 0x10#8 && t.cycles == 4) = true := by decide
theorem test_v4_4_rla : (afterStep [0x17#8]
    { start with a := 0x00#8, f := 0x10#8 }
    fun t => t.a == 0x01#8 && t.f == 0x00#8 && t.cycles == 4) = true := by decide
theorem test_v4_5_rra : (afterStep [0x1F#8]
    { start with a := 0x01#8, f := 0x00#8 }
    fun t => t.a == 0x00#8 && t.f == 0x10#8 && t.cycles == 4) = true := by decide
theorem test_v4_6_rra : (afterStep [0x1F#8]
    { start with a := 0x00#8, f := 0x10#8 }
    fun t => t.a == 0x80#8 && t.f == 0x00#8 && t.cycles == 4) = true := by decide
theorem test_v4_7_rlc_b : (afterStep [0xCB#8, 0x00#8]
    { start with b := 0x80#8, f := 0x00#8 }
    fun t => t.b == 0x01#8 && t.f == 0x10#8 && t.cycles == 8) = true := by decide
theorem test_v4_8_rlc_a : (afterStep [0xCB#8, 0x07#8]
    { start with a := 0x00#8, f := 0x10#8 }
    fun t => t.a == 0x00#8 && t.f == 0x80#8 && t.cycles == 8) = true := by decide
theorem test_v4_9_rlc_indHl : (afterStep [0xCB#8, 0x06#8]
    { (placeByte start 0xC000#16 0x80#8) with h := 0xC0#8, l := 0x00#8 }
    fun t => memRead t 0xC000#16 == 0x01#8 && t.f == 0x10#8 && t.cycles == 16) = true := by decide
theorem test_v4_10_rrc_c : (afterStep [0xCB#8, 0x09#8]
    { start with c := 0x01#8, f := 0x00#8 }
    fun t => t.c == 0x80#8 && t.f == 0x10#8 && t.cycles == 8) = true := by decide
theorem test_v4_11_rl_d : (afterStep [0xCB#8, 0x12#8]
    { start with d := 0x80#8, f := 0x00#8 }
    fun t => t.d == 0x00#8 && t.f == 0x90#8 && t.cycles == 8) = true := by decide
theorem test_v4_12_rr_e : (afterStep [0xCB#8, 0x1B#8]
    { start with e := 0x01#8, f := 0x10#8 }
    fun t => t.e == 0x80#8 && t.f == 0x10#8 && t.cycles == 8) = true := by decide
theorem test_v4_13_sla_h : (afterStep [0xCB#8, 0x24#8]
    { start with h := 0x80#8, f := 0x00#8 }
    fun t => t.h == 0x00#8 && t.f == 0x90#8 && t.cycles == 8) = true := by decide
theorem test_v4_14_sra_a : (afterStep [0xCB#8, 0x2F#8]
    { start with a := 0x8A#8, f := 0x00#8 }
    fun t => t.a == 0xC5#8 && t.f == 0x00#8 && t.cycles == 8) = true := by decide
theorem test_v4_15_sra_l : (afterStep [0xCB#8, 0x2D#8]
    { start with l := 0x01#8, f := 0x00#8 }
    fun t => t.l == 0x00#8 && t.f == 0x90#8 && t.cycles == 8) = true := by decide
theorem test_v4_16_swap_a : (afterStep [0xCB#8, 0x37#8]
    { start with a := 0xF0#8, f := 0xF0#8 }
    fun t => t.a == 0x0F#8 && t.f == 0x00#8 && t.cycles == 8) = true := by decide
theorem test_v4_17_swap_a : (afterStep [0xCB#8, 0x37#8]
    { start with a := 0x00#8, f := 0x70#8 }
    fun t => t.a == 0x00#8 && t.f == 0x80#8 && t.cycles == 8) = true := by decide
theorem test_v4_18_srl_a : (afterStep [0xCB#8, 0x3F#8]
    { start with a := 0x01#8, f := 0x00#8 }
    fun t => t.a == 0x00#8 && t.f == 0x90#8 && t.cycles == 8) = true := by decide
theorem test_v4_19_srl_a : (afterStep [0xCB#8, 0x3F#8]
    { start with a := 0xFF#8, f := 0x00#8 }
    fun t => t.a == 0x7F#8 && t.f == 0x10#8 && t.cycles == 8) = true := by decide
theorem test_v4_20_bit_7_h : (afterStep [0xCB#8, 0x7C#8]
    { start with h := 0x80#8, f := 0x10#8 }
    fun t => t.h == 0x80#8 && t.f == 0x30#8 && t.cycles == 8) = true := by decide
theorem test_v4_21_bit_0_a : (afterStep [0xCB#8, 0x47#8]
    { start with a := 0xFE#8, f := 0x50#8 }
    fun t => t.a == 0xFE#8 && t.f == 0xB0#8 && t.cycles == 8) = true := by decide
theorem test_v4_22_bit_0_indHl : (afterStep [0xCB#8, 0x46#8]
    { (placeByte start 0xC000#16 0x01#8) with h := 0xC0#8, l := 0x00#8, f := 0x00#8 }
    fun t => memRead t 0xC000#16 == 0x01#8 && t.f == 0x20#8 && t.cycles == 12) = true := by decide
theorem test_v4_23_res_0_a : (afterStep [0xCB#8, 0x87#8]
    { start with a := 0xFF#8, f := 0xF0#8 }
    fun t => t.a == 0xFE#8 && t.f == 0xF0#8 && t.cycles == 8) = true := by decide
theorem test_v4_24_set_7_b : (afterStep [0xCB#8, 0xF8#8]
    { start with b := 0x00#8, f := 0x00#8 }
    fun t => t.b == 0x80#8 && t.f == 0x00#8 && t.cycles == 8) = true := by decide
theorem test_v4_25_set_7_indHl : (afterStep [0xCB#8, 0xFE#8]
    { start with h := 0xC0#8, l := 0x00#8 }
    fun t => memRead t 0xC000#16 == 0x80#8 && t.f == 0xB0#8 && t.cycles == 16) = true := by decide

/-! Control transfer: part V5 -/

theorem test_v5_1_jp_nn : (afterStep [0xC3#8, 0x00#8, 0x02#8]
    start
    fun t => t.pc == 0x0200#16 && t.cycles == 16) = true := by decide
theorem test_v5_2_jp_nz_nn : (afterStep [0xC2#8, 0x00#8, 0x02#8]
    { start with f := 0x80#8 }
    fun t => t.pc == 0x0103#16 && t.cycles == 12) = true := by decide
theorem test_v5_3_jp_z_nn : (afterStep [0xCA#8, 0x00#8, 0x02#8]
    { start with f := 0x80#8 }
    fun t => t.pc == 0x0200#16 && t.cycles == 16) = true := by decide
theorem test_v5_4_jp_hl : (afterStep [0xE9#8]
    { start with h := 0x12#8, l := 0x34#8 }
    fun t => t.pc == 0x1234#16 && t.cycles == 4) = true := by decide
theorem test_v5_5_jr_e : (afterStep [0x18#8, 0xFE#8]
    start
    fun t => t.pc == 0x0100#16 && t.cycles == 12) = true := by decide
theorem test_v5_7_jr_e : (afterStep [0x18#8, 0x80#8]
    start
    fun t => t.pc == 0x0082#16 && t.cycles == 12) = true := by decide
theorem test_v5_8_jr_nz_e : (afterStep [0x20#8, 0x05#8]
    { start with f := 0x80#8 }
    fun t => t.pc == 0x0102#16 && t.cycles == 8) = true := by decide
theorem test_v5_9_jr_c_e : (afterStep [0x38#8, 0x05#8]
    { start with f := 0x10#8 }
    fun t => t.pc == 0x0107#16 && t.cycles == 12) = true := by decide
theorem test_v5_10_call_nn : (afterStep [0xCD#8, 0x34#8, 0x12#8]
    start
    fun t => t.pc == 0x1234#16 && t.sp == 0xFFFC#16 && memRead t 0xFFFD#16 == 0x01#8 && memRead t 0xFFFC#16 == 0x03#8 && t.cycles == 24) = true := by decide
theorem test_v5_11_call_nc_nn : (afterStep [0xD4#8, 0x34#8, 0x12#8]
    { start with f := 0x10#8 }
    fun t => t.pc == 0x0103#16 && t.sp == 0xFFFE#16 && t.cycles == 12) = true := by decide
theorem test_v5_12_rst_38 : (afterStep [0xFF#8]
    start
    fun t => t.pc == 0x0038#16 && t.sp == 0xFFFC#16 && memRead t 0xFFFD#16 == 0x01#8 && memRead t 0xFFFC#16 == 0x01#8 && t.cycles == 16) = true := by decide
theorem test_v5_13_ret : (afterStep [0xC9#8]
    { (placeByte (placeByte start 0xFFF0#16 0x34#8) 0xFFF1#16 0x12#8) with sp := 0xFFF0#16 }
    fun t => t.pc == 0x1234#16 && t.sp == 0xFFF2#16 && t.cycles == 16) = true := by decide
theorem test_v5_14_ret_z : (afterStep [0xC8#8]
    { (placeByte (placeByte start 0xFFF0#16 0x34#8) 0xFFF1#16 0x12#8) with sp := 0xFFF0#16, f := 0x00#8 }
    fun t => t.pc == 0x0101#16 && t.sp == 0xFFF0#16 && t.cycles == 8) = true := by decide
theorem test_v5_15_ret_c : (afterStep [0xD8#8]
    { (placeByte (placeByte start 0xFFF0#16 0x34#8) 0xFFF1#16 0x12#8) with sp := 0xFFF0#16, f := 0x10#8 }
    fun t => t.pc == 0x1234#16 && t.sp == 0xFFF2#16 && t.cycles == 20) = true := by decide
theorem test_v5_16_reti : (afterStep [0xD9#8]
    { (placeByte (placeByte start 0xFFF0#16 0x34#8) 0xFFF1#16 0x12#8) with sp := 0xFFF0#16, eiPending := true }
    fun t => t.pc == 0x1234#16 && t.sp == 0xFFF2#16 && t.ime == true && t.eiPending == false && t.cycles == 16) = true := by decide

/-! System instructions, modes, interrupts: parts V6, V7, V8.11 -/

theorem test_v6_1_nop : (afterStep [0x00#8]
    start
    fun t => t.pc == 0x0101#16 && t.cycles == 4) = true := by decide
theorem test_v6_2_di : (afterStep [0xF3#8]
    { start with ime := true, eiPending := true }
    fun t => t.ime == false && t.eiPending == false && t.cycles == 4) = true := by decide
theorem test_v6_3_ei : (afterStep [0xFB#8]
    start
    fun t => t.ime == false && t.eiPending == true && t.cycles == 4) = true := by decide
theorem test_v6_4_nop_after_ei : (afterStep [0x00#8]
    { start with eiPending := true }
    fun t => t.ime == true && t.eiPending == false && t.cycles == 4) = true := by decide
theorem test_v6_5_ei_after_ei : (afterStep [0xFB#8]
    { start with eiPending := true }
    fun t => t.ime == false && t.eiPending == true && t.cycles == 4) = true := by decide
theorem test_v6_6_di_after_ei : (afterStep [0xF3#8]
    { start with eiPending := true }
    fun t => t.ime == false && t.eiPending == false && t.cycles == 4) = true := by decide
theorem test_v6_7_halt : (afterStep [0x76#8]
    start
    fun t => t.cpuMode == .halted && t.pc == 0x0101#16 && t.cycles == 4) = true := by decide
theorem test_v6_7_wake : (afterStep [0x00#8]
    { start with cpuMode := .halted }
    fun t => t.cpuMode == .running && t.pc == 0x0101#16 && t.ifReg == 0x01#5 && t.cycles == 4) = true := by decide
theorem test_v6_8_no_wake : (afterStep [0x00#8]
    { start with cpuMode := .halted, haltWakeNeedsIe := true }
    fun t => t.cpuMode == .halted && t.pc == 0x0100#16 && t.cycles == 4) = true := by decide
theorem test_v6_9_stop : (afterStep [0x10#8, 0x00#8]
    start
    fun t => t.cpuMode == .stopped && t.pc == 0x0102#16 && t.cycles == 4) = true := by decide
theorem test_v6_9_stopped : (afterStep [0x3C#8]
    { start with cpuMode := .stopped }
    fun t => t.cpuMode == .stopped && t.pc == 0x0100#16 && t.cycles == 4) = true := by decide
theorem test_v6_10_key_wakes : (afterStep [0x3C#8]
    { start with cpuMode := .stopped, hostEvents := [[.down .act 3]] }
    fun t => t.cpuMode == .running && t.a == 0x02#8 && t.ifReg == 0x11#5 && t.cycles == 4) = true := by decide
theorem test_v6_11_undefined : (afterStep [0xD3#8]
    start
    fun t => t.cpuMode == .faulted .decodeError 0x0100#16 0xD3#8 && t.pc == 0x0100#16 && t.cycles == 0) = true := by decide
theorem test_v7_1_dispatch : (afterStep [0x00#8]
    { start with ime := true, ieReg := 0x05#5, ifReg := 0x05#5 }
    fun t => t.pc == 0x0041#16 && t.sp == 0xFFFC#16 && memRead t 0xFFFD#16 == 0x01#8 && memRead t 0xFFFC#16 == 0x00#8 && t.ifReg == 0x04#5 && t.ime == false && t.cycles == 24) = true := by decide
theorem test_v7_3_wake_and_dispatch : (afterStep [0x00#8]
    { start with ime := true, ieReg := 0x04#5, ifReg := 0x04#5, cpuMode := .halted }
    fun t => t.pc == 0x0051#16 && t.ifReg == 0x00#5 && t.cycles == 24) = true := by decide
theorem test_v7_4_push_into_ie : (afterStep [0x00#8]
    { start with ime := true, ieReg := 0x01#5, ifReg := 0x01#5, sp := 0x0000#16 }
    fun t => t.pc == 0x0041#16 && t.sp == 0xFFFE#16 && t.ieReg == 0x01#5 && t.cycles == 24) = true := by decide
theorem test_v7_5_push_into_if : (afterStep [0x00#8]
    { start with ime := true, ieReg := 0x1F#5, ifReg := 0x02#5, sp := 0xFF10#16 }
    fun t => t.pc == 0x0049#16 && t.sp == 0xFF0E#16 && t.ifReg == 0x01#5 && t.cycles == 24) = true := by decide
theorem test_v7_6_dispatch_then_fault : (afterStep [0x00#8]
    { (placeByte start 0x0040#16 0xDD#8) with ime := true, ieReg := 0x01#5, ifReg := 0x01#5 }
    fun t => t.cpuMode == .faulted .decodeError 0x0040#16 0xDD#8 && t.pc == 0x0040#16 && t.sp == 0xFFFC#16 && t.cycles == 20) = true := by decide
theorem test_v8_11_write_div : (afterStep [0xE0#8, 0x04#8]
    start
    fun t => t.div == 0x00#8 && t.divAcc == 12 && t.cycles == 12) = true := by decide

/-! ## The bus and its registers: parts V9, V11, V12, W6 -/

theorem test_v11_1_echo : memRead (memWrite start 0xE010#16 0x42#8) 0xC010#16 = 0x42#8 := by decide
theorem test_v11_2_unusable : memRead (memWrite start 0xFEA0#16 0x01#8) 0xFEA0#16 = 0x00#8 := by decide
theorem test_v11_3_no_device : memRead start 0xFF03#16 = 0xFF#8 ∧ memRead start 0xFF10#16 = 0xFF#8 := by decide
theorem test_v11_4_tac : memRead start 0xFF07#16 = 0xF8#8 := by decide
theorem test_v11_5_ie : memRead (memWrite start 0xFFFF#16 0xFF#8) 0xFFFF#16 = 0x1F#8 := by decide
theorem test_v11_6_if : memRead (memWrite start 0xFF0F#16 0xFF#8) 0xFF0F#16 = 0xFF#8 := by decide

/-- An MBC1 cartridge of 32 banks of which bank 31 begins with 31, bank 5 with 5 and bank 1 with 1. -/
def banked : State :=
  { start with cartBanked := true, romSize := 0x80000, rom := [(0x4000, 1#8), (0x14000, 5#8), (0x7C000, 31#8)] }

theorem test_w6_bank_zero : (memWrite banked 0x2000#16 0x00#8).romBank = 1#7 ∧
    (memWrite banked 0x2000#16 0x20#8).romBank = 1#7 := by decide
theorem test_w6_bank_five : memRead banked 0x4000#16 = 1#8 ∧
    memRead (memWrite banked 0x2000#16 0x05#8) 0x4000#16 = 5#8 := by decide
theorem test_v11_7_upper_bits : memRead (memWrite { banked with romBank := 0x1F#7 } 0x4000#16 0x01#8) 0x4000#16 = 31#8 ∧
    (memWrite { banked with romBank := 0x1F#7 } 0x4000#16 0x01#8).romBank = 0x3F#7 := by decide
theorem test_v11_8_mode_one : (memWrite { banked with bankingMode := 1#1, romBank := 0x3F#7 } 0x4000#16 0x02#8).ramBank = 2#2 ∧
    (memWrite { banked with bankingMode := 1#1, romBank := 0x3F#7 } 0x4000#16 0x02#8).romBank = 0x3F#7 := by decide
theorem test_v11_9_disabled : memRead banked 0xA000#16 = 0xFF#8 ∧ memWrite banked 0xA000#16 0x55#8 = banked := ⟨by decide, rfl⟩
theorem test_v11_10_ram_bank :
    (memWrite { banked with ramEnabled := true, ramBank := 2#2 } 0xA000#16 0x55#8).eram = [(0x4000, 0x55#8)] := by decide
theorem test_v11_11_enable : (memWrite banked 0x0000#16 0x1A#8).ramEnabled = true ∧
    (memWrite { banked with ramEnabled := true } 0x0000#16 0x00#8).ramEnabled = false := by decide
theorem test_v11_14_two_banks : memRead { banked with romSize := 0x8000, romBank := 2#7, rom := [(0, 7#8)] } 0x4000#16 = 7#8 := by
  decide
theorem test_v11_15_unbanked : memWrite start 0x2000#16 0x05#8 = start ∧
    memRead (memWrite start 0xA000#16 0x77#8) 0xA000#16 = 0x77#8 := ⟨rfl, by decide⟩
theorem test_v11_16_dma :
    (memWrite { start with wram := [(0, 0x5A#8), (159, 0xC5#8)] } 0xFF46#16 0xC0#8).oam = [(0, 0x5A#8), (159, 0xC5#8)] := by decide +kernel
theorem test_v11_17_dma_echo :
    (memWrite { start with wram := [(0, 0x5A#8), (159, 0xC5#8)] } 0xFF46#16 0xE0#8).oam = [(0, 0x5A#8), (159, 0xC5#8)] := by decide +kernel

/-- A machine whose boot ROM begins with 3E, over a cartridge that begins with 11. -/
def booting : State := { start with boot := some [(0, 0x3E#8)], bootMapped := true, rom := [(0, 0x11#8)] }

theorem test_v11_19_overlay : memRead booting 0x0000#16 = 0x3E#8 ∧
    memRead (memWrite booting 0xFF50#16 0x01#8) 0x0000#16 = 0x11#8 := by decide
theorem test_v11_19_no_remap : memWrite { booting with bootMapped := false } 0xFF50#16 0x00#8 =
    { booting with bootMapped := false } := rfl
theorem test_v9_8_ly : memWrite start 0xFF44#16 0x33#8 = start := rfl
theorem test_v12_1_idle : memRead start 0xFF00#16 = 0xFF#8 := by decide
theorem test_v12_2_down : memRead (keyDown .dir 3 (memWrite start 0xFF00#16 0x20#8)) 0xFF00#16 = 0xE7#8 ∧
    (keyDown .dir 3 start).ifReg = 0x11#5 := by decide
theorem test_v12_3_no_edge : (keyDown .dir 3 { start with dirRow := 0b0111#4, ifReg := 0#5 }).ifReg = 0#5 := by decide
theorem test_v12_4_action :
    memRead (keyDown .act 0 (memWrite { start with dirRow := 0b0111#4 } 0xFF00#16 0x10#8)) 0xFF00#16 = 0xDE#8 := by decide
theorem test_v12_5_both :
    memRead (memWrite { start with dirRow := 0b0111#4, actRow := 0b1110#4 } 0xFF00#16 0x00#8) 0xFF00#16 = 0xC6#8 := by decide

/-! ## The timer: parts V8, W7 -/

theorem test_v8_2_div : (timerTick 1 { start with divAcc := 255 }).div = 1#8 ∧ (timerTick 255 start).divAcc = 255 := by decide
theorem test_v8_3_div_wraps : (timerTick 65290 { start with div := 1#8 }).div = 0#8 ∧
    (timerTick 65290 { start with div := 1#8 }).divAcc = 10 := by decide
theorem test_v8_5_tima : (timerTick 1 { start with tac := 4#3, timaAcc := 1023 }).tima = 1#8 := by decide
theorem test_v8_6_tima : (timerTick 200 { start with tac := 6#3 }).tima = 3#8 ∧
    (timerTick 200 { start with tac := 6#3 }).timaAcc = 8 := by decide
theorem test_v8_7_tima : (timerTick 600 { start with tac := 7#3 }).tima = 2#8 ∧
    (timerTick 600 { start with tac := 7#3 }).timaAcc = 88 := by decide
theorem test_v8_8_disabled : (timerTick 100 { start with tac := 1#3 }).timaAcc = 0 := by decide
theorem test_v8_9_kept : (timerTick 0 (memWrite { start with tac := 4#3, timaAcc := 40 } 0xFF07#16 0x05#8)).tima = 2#8 := by
  decide
theorem test_v8_10_div_write : memRead (memWrite { start with div := 0x40#8, divAcc := 100 } 0xFF04#16 0x99#8) 0xFF04#16 = 0#8 ∧
    (memWrite { start with div := 0x40#8, divAcc := 100 } 0xFF04#16 0x99#8).divAcc = 0 := by decide
theorem test_w7_reload : (timerTick 16 { start with tac := 5#3, tima := 0xFF#8, tma := 0x80#8, ifReg := 0#5 }).tima = 0x80#8 ∧
    (timerTick 16 { start with tac := 5#3, tima := 0xFF#8, tma := 0x80#8, ifReg := 0#5 }).ifReg = 4#5 := by decide
theorem test_w7_reload_ff : (timerTick 48 { start with tac := 5#3, tima := 0xFF#8, tma := 0xFF#8 }).tima = 0xFF#8 := by decide

/-! ## The pixel processor: parts V9, W9 -/

theorem test_w9_hblank : (ppuStep 252 start).ppuMode = .hblank ∧ (ppuStep 252 start).modeClock = 0 := by decide
theorem test_w9_one_short : (ppuStep 203 { start with ppuMode := .hblank }).ppuMode = .hblank ∧
    (ppuStep 204 { start with ppuMode := .hblank }).ppuMode = .oamScan ∧
    (ppuStep 204 { start with ppuMode := .hblank }).ly = 1#8 := by decide
theorem test_v9_1_hblank_request : memRead (ppuStep 252 (memWrite { start with ifReg := 0#5 } 0xFF41#16 0x08#8)) 0xFF41#16 = 0x8C#8 ∧
    (ppuStep 252 (memWrite { start with ifReg := 0#5 } 0xFF41#16 0x08#8)).ifReg = 2#5 := by decide
theorem test_v9_2_vblank_request :
    (ppuStep 204 { start with ppuMode := .hblank, ly := 143#8, statEn := 2#4, ifReg := 0#5 }).ifReg = 3#5 := by decide
theorem test_v9_3_oam_requests_nothing :
    (ppuStep 204 { start with ppuMode := .hblank, statEn := 4#4, ifReg := 0#5 }).ifReg = 0#5 := by decide
theorem test_v9_4_lcd_off : ppuStep 100000 { start with lcdc := 0x10#8 } = { start with lcdc := 0x10#8 } := rfl
theorem test_v9_6_lyc_write :
    (memWrite { start with statEn := 8#4, lyc := 5#8, coincidence := false, ifReg := 0#5 } 0xFF45#16 0x00#8).ifReg = 2#5 := by
  decide
theorem test_v9_7_no_edge : (memWrite { start with statEn := 8#4, ifReg := 0#5 } 0xFF45#16 0x00#8).ifReg = 0#5 := by decide

/-! ## Rendering: part V10 -/

/-- The common setup of V10. -/
def scene : State :=
  { start with
    lcdc := 0x93#8, bgp := 0xE4#8, obp0 := 0xE4#8, obp1 := 0x1B#8
    vram := [(0, 0xF0#8), (2, 0xF0#8), (4, 0xF0#8), (6, 0xF0#8), (8, 0xF0#8), (10, 0xF0#8), (12, 0xF0#8), (14, 0xF0#8),
      (16, 0xFF#8), (17, 0xFF#8)]
    oam := [(0, 16#8), (1, 8#8), (2, 1#8), (4, 16#8), (5, 12#8), (6, 1#8), (7, 0x80#8)] }

theorem test_v10_1_line_0 : ([0, 4, 7, 8, 11, 12, 16, 20].map fun x => pixelShade scene 0 x) =
    [3#2, 3#2, 3#2, 1#2, 1#2, 0#2, 1#2, 0#2] := by decide
theorem test_v10_2_line_1 : ([0, 4, 8, 12].map fun x => pixelShade scene 1 x) = [1#2, 0#2, 1#2, 0#2] := by decide
theorem test_v10_3_scrolled : ([7, 8, 9, 10, 11, 12].map fun x => pixelShade { scene with scx := 2#8 } 0 x) =
    [3#2, 1#2, 1#2, 3#2, 3#2, 0#2] := by decide
theorem test_v10_4_obp1 : ([0, 7, 8].map fun x => pixelShade { scene with oam := scene.oam.write 3 0x30#8 } 0 x) =
    [0#2, 0#2, 1#2] := by decide

/-- The tiles of V10.5 and V10.6: tile 128 row 0 has index 3, tile 256 row 0 index 2, map[1] is 0x80. -/
def signedScene : State :=
  { start with bgp := 0xE4#8, vram := [(0x800, 0xFF#8), (0x801, 0xFF#8), (0x1001, 0xFF#8), (0x1801, 0x80#8)] }

theorem test_v10_5_signed : ([0, 7, 8, 15].map fun x => pixelShade { signedScene with lcdc := 0x81#8 } 0 x) =
    [2#2, 2#2, 3#2, 3#2] := by decide
theorem test_v10_6_unsigned : ([0, 7, 8, 15].map fun x => pixelShade { signedScene with lcdc := 0x91#8 } 0 x) =
    [0#2, 0#2, 3#2, 3#2] := by decide

/-- The eleven sprites of V10.7. -/
def elevenSprites : State :=
  { scene with
    lcdc := 0x82#8
    oam := Memory.ofBytes 160 ((List.range 11).flatMap fun i => [16#8, BitVec.ofNat 8 (8 + 8 * i), 1#8, 0#8]) }

theorem test_v10_7_ten_sprites : ([0, 72, 79, 80, 87].map fun x => pixelShade elevenSprites 0 x) =
    [3#2, 3#2, 3#2, 0#2, 0#2] := by decide

/-- The 8 by 16 sprite of V10.8. -/
def tallSprite (attr : Byte) : State :=
  { start with lcdc := 0x86#8, obp0 := 0xE4#8, vram := [(32, 0xFF#8), (49, 0xFF#8)]
               oam := Memory.ofBytes 160 [16#8, 8#8, 3#8, attr] }

theorem test_v10_8_tall : pixelShade (tallSprite 0x00#8) 0 0 = 1#2 ∧ pixelShade (tallSprite 0x00#8) 8 0 = 2#2 := by decide
theorem test_v10_8_flipped : pixelShade (tallSprite 0x40#8) 15 0 = 1#2 ∧ pixelShade (tallSprite 0x40#8) 7 0 = 2#2 := by decide

/-! ## Witnesses: for every statement with hypotheses, states and operands that meet them together -/

/-- A state is legal if its fields are; for a machine that keeps the start state's devices. -/
theorem legal_start : Legal start :=
  ⟨⟨by decide, by decide, by decide, nofun, by decide, by decide, by decide, by decide, by decide, by decide,
    by decide, by decide, by decide, by decide⟩, ⟨by decide, by decide, by decide, nofun⟩,
    ⟨by decide, by decide, by decide, by decide, by decide, by decide⟩⟩

/-- The start machine with an undefined opcode at PC. -/
def atUndefined : State := placeByte start 0x0100#16 0xD3#8

theorem test_witness_UndefinedOpcodeFaults : Legal atUndefined ∧ atFetch atUndefined ∧
    isUndefinedByte (memRead atUndefined atUndefined.pc) = true :=
  ⟨⟨⟨by decide, by decide, by decide, nofun, by decide, by decide, by decide, by decide, by decide, by decide,
    by decide, by decide, by decide, by decide⟩, ⟨by decide, by decide, by decide, nofun⟩,
    ⟨by decide, by decide, by decide, by decide, by decide, by decide⟩⟩, ⟨rfl, rfl, by decide⟩, by decide⟩

/-- The machine that DecodeError left. -/
def faulted : State := { atUndefined with cpuMode := .faulted .decodeError 0x0100#16 0xD3#8 }

theorem test_witness_DecodeOfEncode : (Instr.ld_bc_nn 0xFFFF#16).wf = true ∧ (Instr.undefined 0xFD#8).wf = true ∧
    Instr.set_7_a.wf = true := by decide
theorem test_witness_ElevenBytes : decodeBytes 0xD3#8 0x00#8 0x00#8 = .undefined 0xD3#8 ∧
    decodeBytes 0xFD#8 0xFF#8 0xFF#8 = .undefined 0xFD#8 := by decide
theorem test_witness_SampleWords : ([0x00#8], Instr.nop) ∈ sampleWords := by decide
theorem test_witness_StepRuns : atFetch start ∧ Instr.nop.wf = true ∧
    decode [memRead start start.pc, memRead start (start.pc + 1), memRead start (start.pc + 2)] =
      .ok (.nop, [0x00#8, 0x00#8]) ∧ ∃ t, exec .nop { start with cycles := 0 } = .next t :=
  ⟨⟨rfl, rfl, by decide⟩, by decide, by decide, _, rfl⟩
/-- The start machine with one key event scheduled before its next step. -/
def keyed : State := { start with hostEvents := [[.down .act 3]] }
theorem test_witness_StepRuns_events : keyed.hostEvents = [.down .act 3] :: [] ∧
    ∃ t, step { [KeyEvent.down .act 3].foldl applyKeyEvent keyed with hostEvents := [] } = .next t := ⟨rfl, _, rfl⟩
theorem test_witness_StepRuns_events_fault :
    step { [KeyEvent.down .act 3].foldl applyKeyEvent { keyed with cpuMode := .faulted .decodeError 0x0100#16 0xD3#8 } with
      hostEvents := [] } = .fault (.decodeErrorFaulted 0x0100#16 0xD3#8) := rfl
/-- R530, R71: the host's step answers the count (4 for NOP), whatever the field held; a breakpoint stops before its instruction. -/
theorem test_host_step_count : (match hostStep { start with cycles := 99 } with | .next (_, n) => n | _ => 0) = 4 := by decide
theorem test_breakpoint : (match runToBreakpoint 3 [0x0101#16] start with | .next t => t.pc | _ => 0) = 0x0101#16 := by decide
theorem test_witness_OnlyAFaulted : step faulted = .fault (.decodeErrorFaulted 0x0100#16 0xD3#8) := rfl
theorem test_witness_StepKeepsLegal : Legal start ∧ ∃ t, step start = .next t := ⟨legal_start, _, rfl⟩
theorem test_witness_StepKeepsLaunchState : (∃ t, step start = .next t) ∧ start.bootMapped = false := ⟨⟨_, rfl⟩, rfl⟩

/-- Launch parameters: 32 KiB of zero bytes, with or without a boot ROM of zero bytes. -/
def zeroLaunch (boot : Option (List Byte)) : LaunchParams where
  rom := List.replicate 0x8000 0x00#8
  boot := boot
  regs := { a := 0#8, f := 0xFF#8, b := 0#8, c := 0#8, d := 0#8, e := 0#8, h := 0#8, l := 0#8, sp := 0#16 }
  mem := { wram := [1#8], hram := [], vram := [], oam := [], eram := [2#8] }
  haltWakeNeedsIe := true

theorem zeroLaunch_length (boot : Option (List Byte)) : romLengthOk (zeroLaunch boot).rom.length = true := by
  rw [show (zeroLaunch boot).rom.length = 0x8000 from List.length_replicate]
  decide

theorem zeroLaunch_type (boot : Option (List Byte)) :
    cartTypeBanked ((zeroLaunch boot).rom.getD Config.cartTypeOffset 0x00#8) = some false := by
  rw [show (zeroLaunch boot).rom.getD Config.cartTypeOffset 0x00#8 = 0x00#8 from by
    simp only [zeroLaunch, List.getD_eq_getElem?_getD, List.getElem?_replicate]; split <;> rfl]
  decide

theorem launched (boot : Option (List Byte)) (h : bootLengthOk boot = true) : ∃ s, launch (zeroLaunch boot) = .ok s := by
  have e : (zeroLaunch boot).boot = boot := rfl
  rw [launch, if_pos (zeroLaunch_length boot), zeroLaunch_type]
  cases boot <;> simp [e, h]

theorem test_witness_LaunchGives_no_boot : (∃ s, launch (zeroLaunch none) = .ok s) ∧ (zeroLaunch none).boot = none :=
  ⟨launched none rfl, rfl⟩
theorem test_witness_LaunchGives_boot : (∃ s, launch (zeroLaunch (some (List.replicate 256 0x00#8))) = .ok s) ∧
    (zeroLaunch (some (List.replicate 256 0x00#8))).boot = some (List.replicate 256 0x00#8) :=
  ⟨launched _ (by decide +kernel), rfl⟩
theorem test_witness_LaunchIsRefused : launch { zeroLaunch none with rom := [] } = .error .romLength ∧
    launch (zeroLaunch (some [0x00#8])) = .error .bootLength := by
  refine ⟨rfl, ?_⟩
  rw [launch, if_pos (zeroLaunch_length _), zeroLaunch_type]
  rfl
theorem test_witness_PairViews : (0x12#8 : Byte).toNat = (0x1234#16 : Word).toNat / 256 ∧
    (0x34#8 : Byte).toNat = (0x1234#16 : Word).toNat % 256 ∧ (∃ t, exec .pop_af start = .next t) ∧
    (∃ t, step start = .next t) := ⟨by decide, by decide, ⟨_, rfl⟩, _, rfl⟩
theorem test_witness_OtherInstructionsLeaveFlags : mayWriteFlags .pop_bc = false ∧ (∃ t, exec .pop_bc start = .next t) ∧
    mayWriteFlags .pop_af = true ∧ mayWriteFlags .bit_0_a = true := ⟨by decide, ⟨_, rfl⟩, by decide, by decide⟩
theorem test_witness_NonStoring : mayStore .pop_bc = false ∧ (∃ t, exec .pop_bc start = .next t) ∧ mayStore .push_bc = true :=
  ⟨by decide, ⟨_, rfl⟩, by decide⟩

/-- The tables of instructions are as long as the maps say: no statement over one of them is empty. -/
theorem test_witness_rows_loads : regFromReg.length = 49 ∧ (regFromImm 0#8).length = 7 ∧ (regFromMem 0#8 0#16).length = 12 ∧
    (memFromReg 0#8 0#16).length = 13 ∧ (pairs 0#16).length = 4 ∧ stackPairs.length = 4 := by decide
theorem test_witness_rows_alu : ([addForms 0#8, adcForms 0#8, subForms 0#8, sbcForms 0#8, andForms 0#8, xorForms 0#8, orForms 0#8,
    cpForms 0#8].map List.length) = [9, 9, 9, 9, 9, 9, 9, 9] ∧ incDecReg.length = 7 := by decide
theorem test_witness_rows_bits : accumulatorRotates.length = 4 ∧ cbRotates.length = 32 ∧ cbShifts.length = 32 ∧
    bitForms.length = 64 ∧ resForms.length = 64 ∧ setForms.length = 64 := by decide
theorem test_witness_rows_control : (conditions 0#16 0#8).length = 4 ∧ restarts.length = 8 ∧ readBack.length = 15 := by decide

theorem test_witness_PopUndoesPush : StorageLegal start ∧ start.f &&& 0x0F#8 = 0x00#8 ∧
    isRam (busTarget start (start.sp - 1)) = true ∧ isRam (busTarget start (start.sp - 2)) = true :=
  ⟨legal_start.storage, by decide, by decide, by decide⟩
theorem test_witness_PopUndoesPush_wraps : isRam (busTarget { start with sp := 0x0000#16 } (0x0000#16 - 2)) = true ∧
    isRam (busTarget { start with sp := 0xC002#16 } (0xC002#16 - 2)) = true := by decide
theorem test_witness_DaaGivesDecimalSums : (99 < 100 ∧ { start with a := 0x99#8 }.a = bcd 99) ∧
    { start with a := 0x00#8 }.a = bcd 0 := by decide
theorem test_witness_Daa : { start with f := 0x00#8 }.f.getLsbD 6 = false ∧ { start with f := 0x40#8 }.f.getLsbD 6 = true := by
  decide
theorem test_witness_Conditions : ∀ row ∈ conditions 0x0000#16 0x00#8,
    (row.2.2 { start with f := 0x00#8 } ∧ ¬ row.2.2 { start with f := 0x90#8 }) ∨
      (row.2.2 { start with f := 0x90#8 } ∧ ¬ row.2.2 { start with f := 0x00#8 }) := by
  simp [conditions]
theorem test_witness_InterruptDispatch :
    pendingIrq { start with ime := true, ieReg := 0x1F#5, ifReg := 0x10#5 } = some .joypad ∧
    pendingIrq { start with ime := true, ieReg := 0x1F#5, ifReg := 0x1F#5 } = some .vblank ∧
    start.hostEvents = [] ∧ start.cpuMode = .running ∧ start.ime = false ∧ start.ieReg &&& start.ifReg = 0#5 := by decide
theorem test_witness_EiTakesEffect_ei : atFetch (placeByte start 0x0100#16 0xFB#8) ∧
    fetchInstr (placeByte start 0x0100#16 0xFB#8) = .ei ∧ (placeByte start 0x0100#16 0xFB#8).ime = false ∧
    ∃ t, step (placeByte start 0x0100#16 0xFB#8) = .next t :=
  ⟨⟨rfl, rfl, by decide⟩, by decide, by decide, _, rfl⟩
/-- With IME true and no EI before the step, the dispatch of R422 is not held back, and the next state is the handler's. -/
theorem test_dispatch_not_held : { start with ime := true, ieReg := 0x01#5 }.eiPending = false ∧
    (checkInterrupts { start with ime := true, ieReg := 0x01#5 }).pc = 0x0040#16 := by decide
/-- Right after an EI with IME already true: held back or not, as the free value is (R551, R422; log 21). -/
theorem test_dispatch_after_ei (s : State) (i : IrqSource) (hi : s.ime = true) (he : s.eiPending = true)
    (hp : pendingIrq s = some i) :
    (checkInterrupts s).pc = if Config.eiHoldsDispatch = true then s.pc else irqVector i := by
  cases h : Config.eiHoldsDispatch <;> simp [checkInterrupts, heldByEi, dispatch, hi, he, hp, h]
theorem test_witness_EiTakesEffect_ei_waiting :
    atFetch { placeByte start 0x0100#16 0xFB#8 with ieReg := 0x01#5 } ∧
    fetchInstr { placeByte start 0x0100#16 0xFB#8 with ieReg := 0x01#5 } = .ei ∧
    pendingIrq { placeByte start 0x0100#16 0xFB#8 with ieReg := 0x01#5 } ≠ none ∧
    ∃ t, step { placeByte start 0x0100#16 0xFB#8 with ieReg := 0x01#5 } = .next t :=
  ⟨⟨rfl, rfl, by decide⟩, by decide, by decide, _, rfl⟩
theorem test_witness_EiTakesEffect_di : atFetch (placeByte start 0x0100#16 0xF3#8) ∧
    fetchInstr (placeByte start 0x0100#16 0xF3#8) = .di ∧ ∃ t, step (placeByte start 0x0100#16 0xF3#8) = .next t :=
  ⟨⟨rfl, rfl, by decide⟩, by decide, _, rfl⟩
theorem test_witness_EiTakesEffect_pending : atFetch { start with eiPending := true } ∧
    fetchInstr { start with eiPending := true } = .nop ∧ isUndefinedByte (memRead start start.pc) = false ∧
    ∃ t, step { start with eiPending := true } = .next t := ⟨⟨rfl, rfl, by decide⟩, by decide, by decide, _, rfl⟩
theorem test_witness_EiTakesEffect_none : atFetch start ∧ start.eiPending = false ∧ fetchInstr start = .nop ∧
    ∃ t, step start = .next t := ⟨⟨rfl, rfl, by decide⟩, rfl, by decide, _, rfl⟩
theorem test_witness_HaltedAndStopped : start.hostEvents = [] ∧ { start with cpuMode := .stopped }.cpuMode = .stopped ∧
    ({ start with cpuMode := .halted, ime := true }.ieReg &&& start.ifReg = 0#5) ∧
    { start with cpuMode := .halted, ifReg := 0#5 }.ifReg = 0#5 ∧
    { start with cpuMode := .halted, ieReg := 1#5 }.ieReg &&& start.ifReg ≠ 0#5 ∧
    { start with cpuMode := .halted }.haltWakeNeedsIe = false ∧ start.ifReg ≠ 0#5 := by decide
theorem test_witness_KeyEvents : (KeyRow.act ≠ KeyRow.dir) ∧ (start.row .dir).getLsbD 3 = true ∧
    { start with cpuMode := .stopped }.cpuMode = .stopped := by decide

/-- The first and the last address of each range of the address map meet that clause's hypotheses and no other's. -/
theorem test_witness_AddressMap_low : [busTarget booting 0x0000#16, busTarget booting 0x00FF#16, busTarget booting 0x0100#16,
    busTarget start 0x0000#16, busTarget start 0x3FFF#16, busTarget banked 0x4000#16, busTarget banked 0x7FFF#16,
    busTarget start 0x7FFF#16, busTarget start 0x8000#16, busTarget start 0x9FFF#16] =
    [.boot 0, .boot 255, .rom 0x100, .rom 0, .rom 0x3FFF, .rom 0x4000, .rom 0x7FFF, .rom 0x7FFF, .vram 0, .vram 0x1FFF] := by
  decide
theorem test_witness_AddressMap_middle : [busTarget start 0xA000#16, busTarget start 0xBFFF#16, busTarget banked 0xA000#16,
    busTarget { banked with ramEnabled := true, ramBank := 3#2 } 0xBFFF#16, busTarget start 0xC000#16,
    busTarget start 0xDFFF#16, busTarget start 0xE000#16, busTarget start 0xFDFF#16] =
    [.eram 0, .eram 0x1FFF, .eramDisabled, .eram 0x7FFF, .wram 0, .wram 0x1FFF, .wram 0, .wram 0x1DFF] := by decide
theorem test_witness_AddressMap_high : [busTarget start 0xFE00#16, busTarget start 0xFE9F#16, busTarget start 0xFEA0#16,
    busTarget start 0xFEFF#16, busTarget start 0xFF00#16, busTarget start 0xFF7F#16, busTarget start 0xFF80#16,
    busTarget start 0xFFFE#16, busTarget start 0xFFFF#16] =
    [.oam 0, .oam 159, .unusable, .unusable, .io .joyp, .ioUnmapped, .hram 0, .hram 126, .ie] := by decide
theorem test_witness_AddressMap_boot : booting.bootMapped = true ∧ ∃ m, booting.boot = some m := ⟨rfl, _, rfl⟩
theorem test_witness_AddressMap_banked : banked.cartBanked = true ∧ 0x8000 ≤ banked.romSize := by decide
theorem test_witness_AddressMap_io : ((ioReads start).lookup 0xFF00#16).isSome = true ∧
    ((ioReads start).lookup 0xFF50#16).isSome = true ∧ ((ioReads start).lookup 0xFF7F#16).isNone = true := by decide
theorem test_witness_RamReadAfterWrite : StorageLegal start ∧ isRam (busTarget start 0xFE9F#16) = true ∧
    busTarget start 0xFDFF#16 = busTarget start 0xDDFF#16 ∧ busTarget start 0xFF44#16 ≠ busTarget start 0xFE9F#16 :=
  ⟨legal_start.storage, by decide, by decide, by decide⟩
theorem test_witness_StoresLeaveOtherBytes : StorageLegal { start with h := 0xC0#8 } ∧
    (Instr.ld_indHl_b, fun s : State => s.hl) ∈ byteStores 0x00#8 0x0000#16 ∧
    (∃ t, exec .ld_indHl_b { start with h := 0xC0#8 } = .next t) ∧
    isRam (busTarget { start with h := 0xC0#8 } { start with h := 0xC0#8 }.hl) = true ∧
    busTarget { start with h := 0xC0#8 } 0xC04E#16 ≠ busTarget { start with h := 0xC0#8 } 0xC04D#16 :=
  ⟨legal_start.storage.congr rfl rfl rfl rfl rfl rfl rfl rfl rfl, by simp [byteStores], ⟨_, rfl⟩, by decide, by decide⟩
theorem test_witness_StoresLeaveOtherBytes_word : StorageLegal start ∧
    (∃ t, exec (.ld_indNn_sp 0xDFFF#16) start = .next t) ∧ isRam (busTarget start 0xDFFF#16) = true ∧
    isRam (busTarget start 0xE000#16) = true ∧ busTarget start 0xC001#16 ≠ busTarget start 0xDFFF#16 ∧
    busTarget start 0xC001#16 ≠ busTarget start 0xE000#16 :=
  ⟨legal_start.storage, ⟨_, rfl⟩, by decide, by decide, by decide, by decide⟩
theorem test_witness_BusWriteFrame : isRam (busTarget start 0xFF45#16) = false ∧ (0xFF45#16 : Word) ≠ 0xFF46#16 := by decide
theorem test_witness_DeviceRegisters : (ioReads start).length = 19 ∧ (ioWrites start 0xFF#8).length = 18 ∧
    booting.bootMapped = true ∧ start.bootMapped = false := by decide
theorem test_witness_Unmapped : (0xFEA0#16 : Word).toNat = 0xFEA0 ∧ (0xFF0E#16 : Word).toNat ≤ 0xFF0E ∧
    (0xFF03#16 : Word).toNat ∈ [0xFF01, 0xFF02, 0xFF03] ∧ banked.cartBanked = true ∧ banked.ramEnabled = false := by decide
theorem test_witness_BankControl : start.cartBanked = false ∧ banked.cartBanked = true ∧ banked.bankingMode = 0#1 ∧
    { banked with bankingMode := 1#1 }.bankingMode = 1#1 := by decide
theorem test_witness_OamDma : StorageLegal start ∧ 159 < 160 := ⟨legal_start.storage, by decide⟩
theorem test_witness_TimerTicks : start.tac.getLsbD 2 = false ∧
    ({ start with tac := 4#3 }.tac.toNat % 4, 1024) ∈ [(0, 1024), (1, 16), (2, 64), (3, 256)] ∧
    ({ start with tac := 7#3 }.tac.toNat % 4, 256) ∈ [(0, 1024), (1, 16), (2, 64), (3, 256)] ∧
    start.timaAcc + 1023 < 1024 ∧ 1024 ≤ start.timaAcc + 1024 ∧ start.timaAcc + 1024 < 2 * 1024 ∧
    start.tima ≠ 0xFF#8 ∧ { start with tima := 0xFF#8 }.tima = 0xFF#8 := by decide
theorem test_witness_ModeTransitions : start.lcdc.getLsbD 7 = true ∧ start.ppuMode = .oamScan ∧ 80 ≤ start.modeClock + 80 ∧
    start.modeClock + 251 < 80 + 172 ∧ { start with ppuMode := .drawLine }.ppuMode = .drawLine ∧
    { start with ppuMode := .hblank, ly := 143#8 }.ly = 143#8 ∧
    ({ start with ppuMode := .vblank, ly := 153#8 }.ly.toNat < 154 ∧ 456 ≤ start.modeClock + 456) := by decide
/-- Clocks just below and at the end of each mode, and one below the end of the next; the lines of each branch. -/
theorem test_witness_ModeTransitions_bounds : (start.ppuMode, 80) ∈ [(PpuMode.oamScan, 80), (.drawLine, 172), (.hblank, 204),
      (.vblank, 456)] ∧ start.modeClock + 79 < 80 ∧ 204 ≤ start.modeClock + 204 ∧ start.modeClock + 283 < 204 + 80 ∧
    start.modeClock + 659 < 204 + 456 ∧ start.modeClock + 911 < 456 + 456 ∧ start.modeClock + 535 < 456 + 80 ∧
    { start with ppuMode := .hblank, ly := 142#8 }.ly ≠ 143#8 ∧ (152#8 : Byte).toNat < 153 ∧ ¬ (153#8 : Byte).toNat < 153 ∧
    { start with ppuMode := .hblank, ly := 143#8 }.ppuMode = .hblank := by decide
theorem test_witness_FrameLaw : start.lcdc.getLsbD 7 = true ∧ start.ppuMode = .oamScan ∧ start.modeClock = 0 ∧ start.ly = 0#8 ∧
    [65663].sum = 456 * 143 + 455 ∧ [65663, 1].sum = 456 * 144 + 0 ∧ [70223, 1].sum = 70224 := by decide
theorem test_witness_FrameLaw_vblank : { start with ppuMode := .vblank, ly := 144#8 }.ly = 144#8 ∧ [4559, 1].sum ≤ 4560 ∧
    { start with lcdc := 0x10#8 }.lcdc.getLsbD 7 = false := by decide
theorem test_witness_Background : start.lcdc.getLsbD 1 = false ∧ start.lcdc.getLsbD 0 = true ∧
    { start with lcdc := 0x90#8 }.lcdc.getLsbD 0 = false ∧ scene.lcdc.getLsbD 0 = true ∧ scene.lcdc.getLsbD 1 = true ∧
    (0 : Fin 144) ≠ 143 := by decide
/-- A rendered line with sprites on has the winner's shade where it shows, which is not what the frame held. -/
theorem test_render_sprite : hostPixel (renderLine 0 scene) 0 4 = pixelShade scene 0 4 ∧
    pixelShade scene 0 4 ≠ hostPixel scene 0 4 := by decide +kernel
theorem test_witness_Sprites : (winner scene 0 4).isSome = true ∧ (winner scene 0 40).isNone = true ∧
    scene.lcdc.getLsbD 1 = true ∧ lineSprites scene 0 = [0, 1] := by decide

end Sys2Proof.Tests
end

section
/-! SUPPORT. What the decoder answers for the undefined bytes. -/

namespace Sys2Proof.Machine

/-- The undefined byte an instruction carries, if it stands for one (30_encoding.md R150). -/
def undefinedByte? : Instr → Option Byte
  | .undefined b => some b
  | _ => none

theorem undefinedByte?_eq_some {i : Instr} {b : Byte} (h : undefinedByte? i = some b) : i = .undefined b := by
  unfold undefinedByte? at h
  split at h
  · exact congrArg Instr.undefined (Option.some.inj h)
  · cases h

theorem undefinedByte?_decodeCb (b : Byte) : undefinedByte? (decodeCb b) = none := by
  revert b
  exact byte_forall (by decide)

/-- Of 0xCB the second byte decides, so it stands apart; of every other byte the map's rows say it, whatever follows. -/
theorem undefinedByte?_decodeBytes (b0 b1 b2 : Byte) :
    undefinedByte? (decodeBytes b0 b1 b2) = if isUndefinedByte b0 then some b0 else none := by
  have other : b0 ≠ 0xCB#8 →
      undefinedByte? (decodeBytes b0 b1 b2) = if isUndefinedByte b0 then some b0 else none := by
    revert b0
    exact byte_forall (of_decide_eq_true rfl)
  by_cases h : b0 = 0xCB#8
  · subst h
    exact undefinedByte?_decodeCb b1
  · exact other h

/-- The decoder answers an undefined opcode exactly for an undefined byte, and the instruction carries that byte. -/
theorem decodeBytes_eq_undefined {b0 b1 b2 b : Byte} :
    decodeBytes b0 b1 b2 = .undefined b ↔ isUndefinedByte b0 = true ∧ b = b0 := by
  have key := undefinedByte?_decodeBytes b0 b1 b2
  constructor
  · intro h
    rw [h] at key
    split at key
    · exact ⟨‹_›, Option.some.inj key⟩
    · cases key
  · rintro ⟨h, rfl⟩
    rw [if_pos h] at key
    exact undefinedByte?_eq_some key

theorem fetchInstr_eq_undefined {s : State} {b : Byte} :
    fetchInstr s = .undefined b ↔ isUndefinedByte (memRead s s.pc) = true ∧ b = memRead s s.pc :=
  decodeBytes_eq_undefined

/-- No bus read depends on the cycle count, so the fetch does not. -/
theorem fetchInstr_atCycles (s : State) (n : Nat) : fetchInstr { s with cycles := n } = fetchInstr s := rfl

end Sys2Proof.Machine
end

section
/-! SUPPORT. What a step can do, said once, and an induction principle for what every step keeps. -/

namespace Sys2Proof.Machine

/-- The state in which a step begins its interrupt check (60_exceptions.md R421, R441). -/
def State.awake (s : State) : State := { s with cpuMode := .running, cycles := 0 }

/-- All that a system step which answers a next state can do: idle, or run the instruction at PC after the interrupt check. -/
theorem systemStep_cases {s t : State} (h : systemStep s = .next t) :
    t = tickDevices { s with cycles := Config.idleCycles } ∧ (s.cpuMode = .stopped ∨ s.cpuMode = .halted) ∨
    ∃ u r, u = checkInterrupts s.awake ∧ (s.cpuMode = .running ∨ s.cpuMode = .halted) ∧
      exec (fetchInstr u) u = .next r ∧ t = tickDevices (eiLatch (fetchInstr u) r) := by
  have fetched : ∀ u, finishStep (fetchInstr u) (exec (fetchInstr u) u) = .next t →
      ∃ r, exec (fetchInstr u) u = .next r ∧ t = tickDevices (eiLatch (fetchInstr u) r) := by
    intro u hu
    cases hr : exec (fetchInstr u) u <;> rw [hr] at hu <;> cases hu
    exact ⟨_, rfl, rfl⟩
  unfold systemStep at h
  obtain ⟨m, hm⟩ : ∃ m, s.cpuMode = m := ⟨_, rfl⟩
  cases m with
  | running =>
    rw [cpuStart_running hm] at h
    obtain ⟨r, hr, ht⟩ := fetched _ h
    have ha : { s with cycles := 0 } = s.awake := by rw [State.awake, ← hm]
    rw [ha] at hr ht
    exact .inr ⟨_, r, rfl, .inl hm, hr, ht⟩
  | halted =>
    cases hw : wakes s with
    | true =>
      rw [cpuStart_woken hm hw] at h
      obtain ⟨r, hr, ht⟩ := fetched _ h
      exact .inr ⟨_, r, rfl, .inr hm, hr, ht⟩
    | false =>
      rw [cpuStart_asleep hm hw] at h
      cases h
      exact .inl ⟨rfl, .inr hm⟩
  | stopped =>
    rw [cpuStart_stopped hm] at h
    cases h
    exact .inl ⟨rfl, .inl hm⟩
  | faulted k pc byte =>
    rw [cpuStart_faulted hm] at h
    cases h

/-- The latch leaves the state alone or ends a pending EI. -/
theorem eiLatch_cases (i : Instr) (s : State) :
    eiLatch i s = s ∨ eiLatch i s = { s with ime := true, eiPending := false } := by
  unfold eiLatch
  split
  · exact .inl rfl
  · exact .inl rfl
  · split
    · exact .inr rfl
    · exact .inl rfl

theorem OpsKeep.eiLatch {Q : State → Prop} (k : OpsKeep Q) (i : Instr) {s : State} (h : Q s) : Q (eiLatch i s) := by
  obtain e | e := eiLatch_cases i s <;> rw [e]
  · exact h
  · exact k.ime _ _ h

/-- A property of states that every part of a step keeps: the operations of the instructions, a change of the CPU's mode and of
IF, the input rows, the schedule, and the devices. -/
structure StepKeeps (Q : State → Prop) : Prop extends OpsKeep Q where
  mode : ∀ s m, Q s → Q { s with cpuMode := m }
  irq : ∀ s v, Q s → Q { s with ifReg := v }
  rows : ∀ s x y, Q s → Q { s with actRow := x, dirRow := y }
  events : ∀ s ev, Q s → Q { s with hostEvents := ev }
  devices : ∀ s, Q s → Q (tickDevices s)

variable {Q : State → Prop} (k : StepKeeps Q)
include k

theorem StepKeeps.applyHostEvents {s : State} (h : Q s) : Q (applyHostEvents s) := by
  have key : ∀ u e, Q u → Q (applyKeyEvent u e) := by
    intro u e hu
    obtain ⟨x, y, i, m, he, -⟩ := applyKeyEvent_changes u e
    rw [he]
    exact k.mode _ m (k.irq _ i (k.rows _ x y hu))
  have keys : ∀ (es : List KeyEvent) (u : State), Q u → Q (es.foldl applyKeyEvent u) := by
    intro es
    induction es with
    | nil => exact fun _ hu => hu
    | cons e es ih => exact fun u hu => ih _ (key u e hu)
  unfold Machine.applyHostEvents
  split
  · exact h
  · exact keys _ _ (k.events _ _ h)

theorem StepKeeps.dispatch (i : IrqSource) {s : State} (h : Q s) : Q (dispatch i s) := by
  have h1 := k.push16 s.pc h
  unfold Machine.dispatch clearRequest
  dsimp only
  generalize Machine.push16 s.pc s = u at *
  exact k.pc _ (irqVector i) (k.irq _ (u.ifReg &&& ~~~irqMask i) (k.ime _ false h1))

theorem StepKeeps.checkInterrupts {s : State} (h : Q s) : Q (checkInterrupts s) := by
  obtain ⟨-, e⟩ | ⟨i, -, -, -, e⟩ := checkInterrupts_cases s <;> rw [e]
  · exact h
  · exact k.cycles _ _ (k.dispatch i h)

theorem StepKeeps.awake {s : State} (h : Q s) : Q s.awake := k.cycles { s with cpuMode := .running } 0 (k.mode s .running h)

theorem StepKeeps.exec (i : Instr) {s t : State} (h : Q s) (ht : exec i s = .next t) : Q t := by
  by_cases hi : ∃ b, i = .undefined b
  · obtain ⟨b, rfl⟩ := hi
    cases ht
    exact k.mode { s with pc := s.pc } (.faulted .decodeError s.pc b) (k.pc s s.pc h)
  · obtain ⟨t', ht', hQ⟩ := k.toOpsKeep.exec i (fun b hb => hi ⟨b, hb⟩) h
    rw [ht] at ht'
    cases ht'
    exact hQ

/-- What every part of a step keeps, every step keeps. -/
theorem StepKeeps.step {s t : State} (h : Q s) (ht : step s = .next t) : Q t := by
  have h1 := k.applyHostEvents h
  obtain ⟨rfl, -⟩ | ⟨u, r, rfl, -, hr, rfl⟩ := systemStep_cases ht
  · exact k.devices _ (k.cycles _ _ h1)
  · exact k.devices _ (k.eiLatch _ (k.exec _ (k.checkInterrupts (k.awake h1)) hr))

end Sys2Proof.Machine
end

section
/-! PROOFS. Legality from reset on (10_state.md R32, R39 to R41, R47, R54, R58). -/

namespace Sys2Proof.Machine

/-- An undefined opcode leaves a legal Faulted machine, at the byte it fetched (45_system.md R396). -/
theorem tickDevices_undefined_legal {u : State} {b : Byte} (h : BusyLegal u) (hf : fetchInstr u = .undefined b) :
    Legal (tickDevices (raiseDecodeError u.pc b u)) := by
  obtain ⟨hb, rfl⟩ := fetchInstr_eq_undefined.mp hf
  refine tickDevices_legal (h.storage.congr rfl rfl rfl rfl rfl rfl rfl rfl rfl)
    ⟨h.flagsLow, h.romBankLow, h.bootPresent, ?_⟩ ⟨h.lyLow, h.vblankLines, h.coincidenceNow⟩ h.modeClockLow
  rintro k pc byte ⟨⟩
  exact ⟨rfl, hb⟩

/-- The run of the instruction at PC ends a step in a legal state. -/
theorem run_legal {u r : State} (h : BusyLegal u) (hr : exec (fetchInstr u) u = .next r) :
    Legal (tickDevices (eiLatch (fetchInstr u) r)) := by
  by_cases hi : ∃ b, fetchInstr u = .undefined b
  · obtain ⟨b, hb⟩ := hi
    rw [hb] at hr ⊢
    cases hr
    exact tickDevices_undefined_legal h hb
  · obtain ⟨r', hr', hk⟩ := busyLegal_ops.exec (fetchInstr u) (fun b hb => hi ⟨b, hb⟩) h
    rw [hr] at hr'
    cases hr'
    exact tickDevices_of_busy (busyLegal_ops.eiLatch _ hk)

theorem systemStep_legal {s t : State} (h : Legal s) (ht : systemStep s = .next t) : Legal t := by
  obtain ⟨rfl, hm⟩ | ⟨u, r, rfl, -, hr, rfl⟩ := systemStep_cases ht
  · refine tickDevices_of_busy (h.busy s.cpuMode Config.idleCycles ?_)
    rcases hm with hm | hm <;> simp [hm]
  · exact run_legal (checkInterrupts_busy (h.busy .running 0 (by simp))) hr

/-- Settles O8: the host's events keep a state legal, the pieces of a step keep `BusyLegal`, and the devices' tick restores the
rest of `Legal`. -/
theorem stepKeepsLegal : Obligations.StepKeepsLegal :=
  fun _ _ h ht => systemStep_legal (applyHostEvents_legal h) ht

theorem reset_storageLegal : StorageLegal State.reset where
  romWf := rfl
  romWithin := rfl
  romSizeOk := by decide
  bootLegal := fun _ hm => nomatch hm
  vramWf := rfl
  vramWithin := rfl
  eramWf := rfl
  eramWithin := rfl
  wramWf := rfl
  wramWithin := rfl
  oamWf := rfl
  oamWithin := rfl
  hramWf := rfl
  hramWithin := rfl

theorem reset_controlLegal : ControlLegal State.reset where
  flagsLow := by decide
  romBankLow := by decide
  bootPresent := fun h => nomatch h
  faultedAt := fun _ _ _ h => nomatch h

theorem reset_deviceLegal : DeviceLegal State.reset where
  divAccLow := by decide
  timaAccLow := fun h => nomatch h
  modeClockLow := by decide
  lyLow := by decide
  vblankLines := by decide
  coincidenceNow := by decide

/-- Settles O9: each clause of `Legal` at the fixed state. -/
theorem resetIsLegal : Obligations.ResetIsLegal := ⟨reset_storageLegal, reset_controlLegal, reset_deviceLegal⟩

end Sys2Proof.Machine
end

section
/-! SUPPORT. The device registers of the I/O page at their addresses (20_memory.md R100, R102). -/

namespace Sys2Proof.Machine

/-- The address of a device register (R100). -/
def ioAddr : IoReg → Word
  | .joyp => 0xFF00#16
  | .div => 0xFF04#16
  | .tima => 0xFF05#16
  | .tma => 0xFF06#16
  | .tac => 0xFF07#16
  | .ifr => 0xFF0F#16
  | .lcdc => 0xFF40#16
  | .stat => 0xFF41#16
  | .scy => 0xFF42#16
  | .scx => 0xFF43#16
  | .ly => 0xFF44#16
  | .lyc => 0xFF45#16
  | .dma => 0xFF46#16
  | .bgp => 0xFF47#16
  | .obp0 => 0xFF48#16
  | .obp1 => 0xFF49#16
  | .wy => 0xFF4A#16
  | .wx => 0xFF4B#16
  | .boot => 0xFF50#16

theorem busTarget_ioAddr (s : State) (r : IoReg) : busTarget s (ioAddr r) = .io r := by cases r <;> rfl

theorem memRead_ioAddr (s : State) (r : IoReg) : memRead s (ioAddr r) = readIo s r := by
  rw [memRead, busTarget_ioAddr, readTarget]

theorem memWrite_ioAddr (s : State) (r : IoReg) (v : Byte) : memWrite s (ioAddr r) v = writeIo r v s := by
  rw [memWrite, busTarget_ioAddr]

theorem memRead_ie (s : State) : memRead s 0xFFFF#16 = 0b000#3 ++ s.ieReg := rfl

theorem memWrite_ie (s : State) (v : Byte) : memWrite s 0xFFFF#16 v = { s with ieReg := v.extractLsb' 0 5 } := rfl

end Sys2Proof.Machine
end

section
/-! PROOFS. The coincidence of LY and LYC (10_state.md R59, 60_exceptions.md R467). -/

namespace Sys2Proof.Machine

/-- The evaluation as one whole next state. -/
theorem coincidenceUpdate_eq (s : State) : coincidenceUpdate s = { s with
    coincidence := decide (s.ly = s.lyc)
    ifReg := if s.ly = s.lyc ∧ s.coincidence = false ∧ s.statEn.getLsbD 3 = true ∧ s.lcdc.getLsbD 7 = true
      then s.ifReg ||| 0x02#5 else s.ifReg } := by
  have iff : (decide (s.ly = s.lyc) && !s.coincidence && s.statEn.getLsbD 3 && s.lcdc.getLsbD 7) = true ↔
      s.ly = s.lyc ∧ s.coincidence = false ∧ s.statEn.getLsbD 3 = true ∧ s.lcdc.getLsbD 7 = true := by
    simp [and_assoc]
  by_cases h : s.ly = s.lyc ∧ s.coincidence = false ∧ s.statEn.getLsbD 3 = true ∧ s.lcdc.getLsbD 7 = true
  · rw [coincidenceUpdate_fires (iff.mpr h), if_pos h]
    rfl
  · rw [coincidenceUpdate_quiet (mt iff.mp h), if_neg h]

/-- Once the flag is up to date, nothing rises and nothing is requested. -/
theorem coincidenceUpdate_of_current {s : State} (h : s.coincidence = decide (s.ly = s.lyc)) : coincidenceUpdate s = s := by
  have quiet : ¬ (s.ly = s.lyc ∧ s.coincidence = false ∧ s.statEn.getLsbD 3 = true ∧ s.lcdc.getLsbD 7 = true) := by
    rintro ⟨hl, hc, -⟩
    simp [hl, hc] at h
  rw [coincidenceUpdate_eq, if_neg quiet, ← h]

theorem coincidenceUpdate_idem (s : State) : coincidenceUpdate (coincidenceUpdate s) = coincidenceUpdate s :=
  coincidenceUpdate_of_current (by simp)

theorem memWrite_lyc (s : State) (v : Byte) : memWrite s 0xFF45#16 v = coincidenceUpdate { s with lyc := v } :=
  memWrite_ioAddr s .lyc v

theorem memWrite_lyc_twice (s : State) (v : Byte) :
    memWrite (memWrite s 0xFF45#16 v) 0xFF45#16 v = memWrite s 0xFF45#16 v := by
  have stored : { memWrite s 0xFF45#16 v with lyc := v } = memWrite s 0xFF45#16 v := by
    rw [memWrite_lyc, coincidenceUpdate_eq]
  rw [memWrite_lyc (memWrite s 0xFF45#16 v), stored, memWrite_lyc, coincidenceUpdate_idem]

/-- Settles O58: the evaluation in one equation, its idempotence, and the write of LYC through both. -/
theorem coincidenceEdge : Obligations.CoincidenceEdge := fun s v =>
  ⟨coincidenceUpdate_eq s, coincidenceUpdate_idem s, memWrite_lyc s v, memWrite_lyc_twice s v⟩

end Sys2Proof.Machine
end

section
/-! PROOFS. The OAM-DMA copy (10_state.md R60, 20_memory.md R110, R111). -/

namespace Sys2Proof.Machine

/-- The source address of byte k of the copy (R110). -/
theorem dmaSource_toNat (v : Byte) {k : Nat} (hk : k < 160) :
    (word v 0x00#8 + BitVec.ofNat 16 k).toNat = 256 * v.toNat + k := by
  have hv := v.isLt
  rw [BitVec.toNat_add, word_toNat, BitVec.toNat_ofNat]
  simp
  omega

/-- Where OAM stands on the bus (20_memory.md R90). -/
theorem busTarget_oam_addr {s : State} {addr : Word} {i : Nat} (h : busTarget s addr = .oam i) :
    addr.toNat = 0xFE00 + i ∧ i < 160 := by
  revert h
  simp only [busTarget, eramTarget]
  (repeat' split) <;> simp only [reduceCtorEq, false_implies, BusTarget.oam.injEq]
  omega

/-- The copy reads OAM only at the byte it is about to write: the page of OAM is copied onto itself. -/
theorem dmaSource_oam {s : State} {v : Byte} {k i : Nat} (hk : k < 160)
    (h : busTarget s (word v 0x00#8 + BitVec.ofNat 16 k) = .oam i) : i = k := by
  have reached := busTarget_oam_addr h
  rw [dmaSource_toNat v hk] at reached
  omega

/-- A read where OAM is not what the address reaches does not depend on OAM. -/
theorem memRead_atOam {s : State} {m : Memory} {addr : Word} (h : ∀ i, busTarget s addr = .oam i → m.read i = s.oam.read i) :
    memRead { s with oam := m } addr = memRead s addr := by
  have ht : busTarget { s with oam := m } addr = busTarget s addr := rfl
  unfold memRead
  rw [ht]
  generalize busTarget s addr = target at *
  cases target
  case oam i => exact h i rfl
  all_goals rfl

/-- After n bytes of the copy OAM is canonical, its first n bytes are what the bus read before the copy at the source addresses,
and the others stand as they were. -/
theorem dmaFold_oam (v : Byte) {s : State} (hw : s.oam.wf = true) : ∀ n, n ≤ 160 →
    ((List.range n).foldl (dmaByte v) s).oam.wf = true ∧
    ∀ k, ((List.range n).foldl (dmaByte v) s).oam.read k =
      if k < n then memRead s (word v 0x00#8 + BitVec.ofNat 16 k) else s.oam.read k := by
  intro n
  induction n with
  | zero => exact fun _ => ⟨hw, fun _ => rfl⟩
  | succ n ih =>
    intro hn
    obtain ⟨hwf, hread⟩ := ih (by omega)
    have source : memRead ((List.range n).foldl (dmaByte v) s) (word v 0x00#8 + BitVec.ofNat 16 n) =
        memRead s (word v 0x00#8 + BitVec.ofNat 16 n) := by
      rw [dmaFold_eq]
      refine memRead_atOam fun i hi => ?_
      rw [dmaSource_oam (by omega) hi, hread, if_neg (Nat.lt_irrefl n)]
    rw [List.range_succ, List.foldl_append, List.foldl_cons, List.foldl_nil]
    refine ⟨Memory.wf_write _ _ hwf, fun k => ?_⟩
    rw [dmaByte, source, Memory.read_write _ _ _ hwf, hread]
    by_cases hk : k = n
    · rw [if_pos hk, if_pos (by omega), hk]
    · rw [if_neg hk]
      exact if_congr (by omega) rfl rfl

theorem memWrite_dma (s : State) (v : Byte) : memWrite s 0xFF46#16 v = oamDma v { s with dmaLast := v } :=
  memWrite_ioAddr s .dma v

theorem memWrite_dma_frame (s : State) (v : Byte) :
    memWrite s 0xFF46#16 v = { s with dmaLast := v, oam := (memWrite s 0xFF46#16 v).oam } := by
  rw [memWrite_dma]
  exact oamDma_eq v { s with dmaLast := v }

/-- Settles O53, by induction on the number of bytes copied. -/
theorem oamDmaCopies : Obligations.OamDmaCopies := by
  intro s v h
  refine ⟨fun k hk => ?_, memWrite_dma_frame s v⟩
  have copied := (dmaFold_oam v (s := { s with dmaLast := v }) h.oamWf 160 (Nat.le_refl _)).2 k
  have source : word v 0x00#8 + BitVec.ofNat 16 k = BitVec.ofNat 16 (256 * v.toNat + k) := by
    apply BitVec.eq_of_toNat_eq
    have := v.isLt
    rw [dmaSource_toNat v hk, BitVec.toNat_ofNat]
    omega
  rw [if_pos hk, source] at copied
  rw [memWrite_dma]
  exact copied

end Sys2Proof.Machine
end

section
/-! PROOFS. The device registers: their reads, their writes, and what a read gives after a write (10_state.md R45 to R66,
20_memory.md R100, R102, R103). -/

namespace Sys2Proof.Machine

open Sys2Proof.Rows

/-! ## The packed fields, as numbers -/

theorem joyp_packed : ∀ (sel : BitVec 2) (rows : BitVec 4),
    (0b11#2 ++ sel ++ rows : Byte) = BitVec.ofNat 8 (192 + 16 * sel.toNat + rows.toNat) := by decide

theorem tac_packed : ∀ tac : BitVec 3, (0b11111#5 ++ tac : Byte) = BitVec.ofNat 8 (248 + tac.toNat) := by decide

theorem if_packed : ∀ ifReg : BitVec 5, (0b111#3 ++ ifReg : Byte) = BitVec.ofNat 8 (224 + ifReg.toNat) := by decide

theorem ie_packed : ∀ ieReg : BitVec 5, (0b000#3 ++ ieReg : Byte) = BitVec.ofNat 8 ieReg.toNat := by decide

theorem stat_packed : ∀ (en : BitVec 4) (co : Bool) (mode : BitVec 2), (1#1 ++ en ++ BitVec.ofBool co ++ mode : Byte) =
    BitVec.ofNat 8 (128 + 8 * en.toNat + 4 * co.toNat + mode.toNat) := by decide

theorem field_eq_ofNat (v : Byte) (start len : Nat) : v.extractLsb' start len = BitVec.ofNat len (v.toNat / 2 ^ start) := by
  rw [← Nat.shiftRight_eq_div_pow]
  rfl

/-! ## Reads and writes -/

/-- The registers of the I/O page in the order of their addresses. -/
def ioRegs : List IoReg :=
  [.joyp, .div, .tima, .tma, .tac, .ifr, .lcdc, .stat, .scy, .scx, .ly, .lyc, .dma, .bgp, .obp0, .obp1, .wy, .wx, .boot]

/-- The registers whose write does no more than store: all but LYC and the OAM-DMA register. -/
def plainIoRegs : List IoReg :=
  [.joyp, .div, .tima, .tma, .tac, .ifr, .lcdc, .stat, .scy, .scx, .ly, .bgp, .obp0, .obp1, .wy, .wx, .boot]

theorem ioReads_eq (s : State) : ioReads s = ioRegs.map fun r => (ioAddr r, readIo s r) := by
  obtain ⟨m, hm⟩ : ∃ m, s.ppuMode = m := ⟨_, rfl⟩
  cases m <;> simp only [ioReads, ioRegs, List.map_cons, List.map_nil, ioAddr, readIo, joyp_packed, tac_packed, if_packed,
    stat_packed, joypRows, hm, modeCode, BitVec.toNat_ofNat, Nat.reducePow, Nat.reduceMod]

theorem memRead_of_mem_ioReads {s : State} {row : Word × Byte} (h : row ∈ ioReads s) : memRead s row.1 = row.2 := by
  rw [ioReads_eq] at h
  obtain ⟨r, -, rfl⟩ := List.mem_map.mp h
  exact memRead_ioAddr s r

theorem ioWrites_eq (s : State) (v : Byte) : ioWrites s v =
    (plainIoRegs.map fun r => (ioAddr r, writeIo r v s)) ++ [(0xFFFF#16, { s with ieReg := v.extractLsb' 0 5 })] := by
  have boot : writeIo .boot v s = { s with bootMapped := s.bootMapped && decide (v = 0x00#8) } := by
    by_cases hv : v = 0x00#8 <;> simp [writeIo, hv]
  simp only [ioWrites, plainIoRegs, List.map_cons, List.map_nil, List.cons_append, List.nil_append, ioAddr, boot]
  simp only [writeIo, field_eq_ofNat, Nat.reducePow, Nat.div_one]

theorem memWrite_of_mem_ioWrites {s : State} {v : Byte} {row : Word × State} (h : row ∈ ioWrites s v) :
    memWrite s row.1 v = row.2 := by
  rw [ioWrites_eq, List.mem_append, List.mem_map, List.mem_singleton] at h
  obtain ⟨r, -, rfl⟩ | rfl := h
  · exact memWrite_ioAddr s r v
  · exact memWrite_ie s v

theorem memWrite_lyc_frame (s : State) (v : Byte) : memWrite s 0xFF45#16 v =
    { s with lyc := v, coincidence := (memWrite s 0xFF45#16 v).coincidence, ifReg := (memWrite s 0xFF45#16 v).ifReg } := by
  rw [memWrite_lyc, coincidenceUpdate_eq]

/-! ## Reads after writes -/

theorem memRead_memWrite_ioAddr (s : State) (r : IoReg) (v : Byte) :
    memRead (memWrite s (ioAddr r) v) (ioAddr r) = readIo (writeIo r v s) r := by
  rw [memWrite_ioAddr, memRead_ioAddr]

theorem stored_whole (v : Byte) : v = (v &&& 0xFF#8) ||| 0x00#8 := by
  revert v
  exact byte_forall (by decide)

theorem stored_tac (v : Byte) : (0b11111#5 ++ v.extractLsb' 0 3 : Byte) = (v &&& 0x07#8) ||| 0xF8#8 := by
  revert v
  exact byte_forall (by decide)

theorem stored_if (v : Byte) : (0b111#3 ++ v.extractLsb' 0 5 : Byte) = (v &&& 0x1F#8) ||| 0xE0#8 := by
  revert v
  exact byte_forall (by decide)

theorem stored_ie (v : Byte) : (0b000#3 ++ v.extractLsb' 0 5 : Byte) = (v &&& 0x1F#8) ||| 0x00#8 := by
  revert v
  exact byte_forall (by decide)

theorem readBack_holds (s : State) (v : Byte) :
    ∀ row ∈ readBack, memRead (memWrite s row.1 v) row.1 = (v &&& row.2.1) ||| row.2.2 := by
  have io : ∀ r, readIo (writeIo r v s) r = v → memRead (memWrite s (ioAddr r) v) (ioAddr r) = (v &&& 0xFF#8) ||| 0x00#8 :=
    fun r h => (memRead_memWrite_ioAddr s r v).trans (h.trans (stored_whole v))
  simp only [readBack, List.forall_mem_cons]
  exact ⟨io .tima rfl, io .tma rfl, (memRead_memWrite_ioAddr s .tac v).trans (stored_tac v),
    (memRead_memWrite_ioAddr s .ifr v).trans (stored_if v), io .lcdc rfl, io .scy rfl, io .scx rfl,
    io .lyc (coincidenceUpdate_lyc _), io .dma (oamDma_dmaLast _ _), io .bgp rfl, io .obp0 rfl, io .obp1 rfl, io .wy rfl,
    io .wx rfl, stored_ie v, nofun⟩

/-- STAT's byte: bit 7, the enables in bits 6 to 3, and the read-only bits below, which any enables leave the same. -/
theorem stat_bits (en en' : BitVec 4) (co : Bool) (mode : BitVec 2) :
    (1#1 ++ en ++ BitVec.ofBool co ++ mode : Byte) = 0x80#8 ||| en.setWidth 8 <<< 3 |||
      ((1#1 ++ en' ++ BitVec.ofBool co ++ mode : Byte) &&& 0x07#8) := by
  have low : ∀ (en' : BitVec 4) (co : Bool) (mode : BitVec 2),
      (1#1 ++ en' ++ BitVec.ofBool co ++ mode : Byte) &&& 0x07#8 = (BitVec.ofBool co ++ mode).setWidth 8 := by decide
  have whole : ∀ (en : BitVec 4) (co : Bool) (mode : BitVec 2), (1#1 ++ en ++ BitVec.ofBool co ++ mode : Byte) =
      0x80#8 ||| en.setWidth 8 <<< 3 ||| (BitVec.ofBool co ++ mode).setWidth 8 := by decide
  rw [low, whole]

theorem stat_field (v : Byte) : (v.extractLsb' 3 4).setWidth 8 <<< 3 = v &&& 0x78#8 := by
  revert v
  exact byte_forall (by decide)

theorem stat_readBack (s : State) (v : Byte) : memRead (memWrite s 0xFF41#16 v) 0xFF41#16 =
    0x80#8 ||| (v &&& 0x78#8) ||| (memRead s 0xFF41#16 &&& 0x07#8) :=
  calc memRead (memWrite s 0xFF41#16 v) 0xFF41#16
    _ = readIo (writeIo .stat v s) .stat := memRead_memWrite_ioAddr s .stat v
    _ = 0x80#8 ||| (v.extractLsb' 3 4).setWidth 8 <<< 3 ||| (readIo s .stat &&& 0x07#8) := stat_bits _ s.statEn _ _
    _ = 0x80#8 ||| (v &&& 0x78#8) ||| (memRead s 0xFF41#16 &&& 0x07#8) := by rw [stat_field, ← memRead_ioAddr]; rfl

theorem joyp_bits : ∀ (sel : BitVec 2) (rows : BitVec 4),
    (0b11#2 ++ sel ++ rows : Byte) = 0xC0#8 ||| sel.setWidth 8 <<< 4 ||| rows.setWidth 8 := by decide

theorem joyp_field (v : Byte) : (v.extractLsb' 4 2).setWidth 8 <<< 4 = v &&& 0x30#8 := by
  revert v
  exact byte_forall (by decide)

theorem joyp_readBack (s : State) (v : Byte) : memRead (memWrite s 0xFF00#16 v) 0xFF00#16 =
    0xC0#8 ||| (v &&& 0x30#8) ||| ((if v.getLsbD 4 = true then 0xF#4 else s.dirRow) &&&
      (if v.getLsbD 5 = true then 0xF#4 else s.actRow)).setWidth 8 := by
  have rows : joypRows (writeIo .joyp v s) = (if v.getLsbD 4 = true then 0xF#4 else s.dirRow) &&&
      (if v.getLsbD 5 = true then 0xF#4 else s.actRow) := by simp [joypRows, writeIo]
  calc memRead (memWrite s 0xFF00#16 v) 0xFF00#16
    _ = readIo (writeIo .joyp v s) .joyp := memRead_memWrite_ioAddr s .joyp v
    _ = 0xC0#8 ||| (v.extractLsb' 4 2).setWidth 8 <<< 4 ||| (joypRows (writeIo .joyp v s)).setWidth 8 := joyp_bits _ _
    _ = _ := by rw [joyp_field, rows]

theorem memWrite_bootMapped_of_false {s : State} (addr : Word) (v : Byte) (h : s.bootMapped = false) :
    (memWrite s addr v).bootMapped = false := by
  apply memWrite_cases (P := fun t => t.bootMapped = false)
  case io => exact fun r _ => by apply writeIo_cases (P := fun t => t.bootMapped = false) <;> simp [h]
  all_goals simp [h]

/-- Settles O50: each table is the model's own read or write of every register at its address, and the packed bytes are compared
bit by bit. -/
theorem deviceRegisters : Obligations.DeviceRegisters := fun s v =>
  ⟨fun _ => memRead_of_mem_ioReads, (memRead_ie s).trans (ie_packed s.ieReg), fun _ => memWrite_of_mem_ioWrites,
    memWrite_lyc_frame s v, memWrite_dma_frame s v, readBack_holds s v, memRead_memWrite_ioAddr s .div v,
    stat_readBack s v, joyp_readBack s v, fun addr => ⟨memWrite_ly s addr v, memWrite_bootMapped_of_false addr v⟩⟩

end Sys2Proof.Machine
end

section
/-! PROOFS. The launch and the reset values (10_state.md R70, 70_reset_and_hazards.md R540). -/

namespace Sys2Proof.Machine

/-- All that a launch which is not refused can be. -/
theorem launch_cases {p : LaunchParams} {s : State} (h : launch p = .ok s) :
    ∃ banked, p.boot = none ∧ s = launchCommon p banked ∨
      ∃ bytes, p.boot = some bytes ∧ bytes.length = Config.bootSize ∧ s = launchBoot p banked bytes := by
  unfold launch at h
  split at h
  · split at h
    · cases h
    · rename_i banked _
      refine ⟨banked, ?_⟩
      cases hb : p.boot with
      | none =>
        rw [hb] at h
        cases h
        exact .inl ⟨rfl, rfl⟩
      | some bytes =>
        rw [hb] at h
        split at h
        · rename_i hl
          cases h
          exact .inr ⟨bytes, rfl, of_decide_eq_true hl, rfl⟩
        · cases h
  · cases h

/-- Below its size the array of a list of bytes reads as the list, past whose end stands 0x00 (log 1). -/
theorem read_ofBytes_of_lt {size k : Nat} (vs : List Byte) (h : k < size) :
    (Memory.ofBytes size vs).read k = vs.getD k 0x00#8 := by
  rw [Memory.read_ofBytes, if_pos h]
  rfl

/-- The overlay's bytes are read at 0x0000 to 0x00FF after a launch with a boot ROM (20_memory.md R83). -/
theorem memRead_launchBoot (p : LaunchParams) (banked : Bool) (bytes : List Byte) {addr : Word} (h : addr.toNat < 256) :
    memRead (launchBoot p banked bytes) addr = bytes.getD addr.toNat 0x00#8 := by
  have target : busTarget (launchBoot p banked bytes) addr = .boot addr.toNat := if_pos ⟨h, rfl⟩
  rw [memRead, target]
  exact read_ofBytes_of_lt bytes h

theorem hostPixel_blank {s : State} (h : s.frame = Vector.replicate 144 (Vector.replicate 160 0#2)) (y : Fin 144) (x : Fin 160) :
    hostPixel s y x = 0#2 := by
  simp [hostPixel, h]

theorem launchCommon_boot (p : LaunchParams) (banked : Bool) : (launchCommon p banked).boot = none := rfl

theorem launchBoot_boot (p : LaunchParams) (banked : Bool) (bytes : List Byte) :
    (launchBoot p banked bytes).boot = some (Memory.ofBytes Config.bootSize bytes) := rfl

/-- Settles O11: each row of the reset table, for the two columns that `launch_cases` leaves. -/
theorem launchGivesTheResetValues : Obligations.LaunchGivesTheResetValues := by
  intro p s h
  obtain ⟨banked, column⟩ := launch_cases h
  have present : s.boot.isSome = true ↔ p.boot.isSome = true := by
    obtain ⟨hb, rfl⟩ | ⟨bytes, hb, -, rfl⟩ := column
    · rw [launchCommon_boot, hb]
      exact Iff.rfl
    · simp only [launchBoot_boot, hb, Option.isSome_some]
  refine ⟨fun hn => ?noBoot, fun bytes hs => ?boot, ?shared⟩
  case noBoot =>
    obtain ⟨-, rfl⟩ | ⟨bytes, hb, -⟩ := column
    · exact ⟨rfl, rfl, rfl, rfl, rfl, rfl, rfl, rfl, rfl, rfl, rfl, rfl, rfl, rfl, rfl, rfl, rfl⟩
    · cases hn.symm.trans hb
  case boot =>
    obtain ⟨hb, -⟩ | ⟨bytes', hb, -, rfl⟩ := column
    · cases hb.symm.trans hs
    · cases hb.symm.trans hs
      exact ⟨rfl, rfl, rfl, rfl, rfl, rfl, rfl, rfl, rfl, rfl, rfl, rfl, rfl, rfl, rfl, rfl, rfl,
        fun _ => memRead_launchBoot p banked bytes⟩
  case shared =>
    rcases column with ⟨-, rfl⟩ | ⟨bytes, -, -, rfl⟩
    all_goals exact ⟨rfl, present, rfl, rfl, rfl, rfl, rfl, rfl, rfl, rfl, rfl, rfl, rfl, rfl, rfl, rfl, rfl, rfl, rfl, rfl,
      rfl, rfl, rfl, rfl, rfl, rfl, hostPixel_blank rfl, rfl, rfl, rfl, fun _ => read_ofBytes_of_lt _,
      fun _ => read_ofBytes_of_lt _, fun _ => read_ofBytes_of_lt _, fun _ => read_ofBytes_of_lt _,
      fun _ => read_ofBytes_of_lt _⟩

/-- An array of unwritten bytes lists none. -/
theorem ofBytesFrom_unwritten : ∀ (n i : Nat), Memory.ofBytesFrom i (List.replicate n 0x00#8) = []
  | 0, _ => rfl
  | n + 1, i => by
    rw [List.replicate_succ, Memory.ofBytesFrom, ofBytesFrom_unwritten n]
    rfl

theorem ofBytes_unwritten (size n : Nat) : Memory.ofBytes size (List.replicate n 0x00#8) = [] := by
  rw [Memory.ofBytes, List.take_replicate, ofBytesFrom_unwritten]

theorem launch_noBoot {p : LaunchParams} {banked : Bool} (length : romLengthOk p.rom.length = true)
    (type : cartTypeBanked (p.rom.getD Config.cartTypeOffset 0x00#8) = some banked) (boot : p.boot = none) :
    launch p = .ok (launchCommon p banked) := by
  unfold launch
  rw [if_pos length, type]
  simp only [boot, bootLengthOk, if_true]

/-- The launch of an unbanked image of n zero bytes, its RAMs drawn as zero: arrays of zero bytes are the empty ones. -/
theorem launch_zeroImage (regs : ResetRegs) {n : Nat} (length : romLengthOk n = true) (reaches : Config.cartTypeOffset < n) :
    launch { rom := List.replicate n 0x00#8, boot := none, regs := regs
             mem := { wram := [], hram := [], vram := [], oam := [], eram := [] }
             haltWakeNeedsIe := false } = .ok { State.reset with romSize := n } := by
  have type : (List.replicate n 0x00#8).getD Config.cartTypeOffset 0x00#8 = 0x00#8 := List.getD_replicate _ reaches
  rw [launch_noBoot (by rwa [List.length_replicate]) (congrArg cartTypeBanked type) rfl, launchCommon, ofBytes_unwritten,
    List.length_replicate]
  rfl

/-- Settles O13: the reset state is the launch of the smallest such image. -/
theorem resetIsALaunch : Obligations.ResetIsALaunch := fun regs => launch_zeroImage regs (by decide) (by decide)

end Sys2Proof.Machine
end

section
/-! SUPPORT. What one instruction can do: the operations that only some instructions are made of (a write of the flags, a bus
write, a change of the CPU's mode or of its interrupt state) are asked for of those alone. -/

namespace Sys2Proof.Machine

open Sys2Proof.Rows

/-- A property of states that every operation which instruction `i` is made of keeps. It refines `OpsKeep`, whose property every
operation must keep: so it says too what an instruction leaves unchanged that others write. -/
structure InstrKeeps (i : Instr) (Q : State → Prop) : Prop where
  reg : ∀ s r v, Q s → Q (s.setReg r v)
  pair : ∀ s r w, Q s → Q (s.setReg16 r w)
  pc : ∀ s w, Q s → Q { s with pc := w }
  cycles : ∀ s n, Q s → Q { s with cycles := n }
  flags : mayWriteFlags i = true → ∀ s fl, Q s → Q (s.setFlags fl)
  popAf : mayWriteFlags i = true → ∀ s w, Q s → Q (s.setStackPair .af w)
  write : mayStore i = true → ∀ s addr v, Q s → Q (memWrite s addr v)
  halt : i = .halt → ∀ s, Q s → Q { s with cpuMode := .halted }
  stop : (∃ x, i = .stop x) → ∀ s, Q s → Q { s with cpuMode := .stopped }
  ime : i = .di ∨ i = .reti → ∀ s x, Q s → Q { s with ime := x, eiPending := false }
  ei : i = .ei → ∀ s, Q s → Q { s with eiPending := true }
  undef : ∀ b, i = .undefined b → ∀ s, Q s → Q (raiseDecodeError s.pc b s)

variable {i : Instr} {Q : State → Prop} (k : InstrKeeps i Q) {s : State}
include k

theorem InstrKeeps.setHl (w : Word) (h : Q s) : Q (s.setHl w) := k.pair s .hl w h

theorem InstrKeeps.popped (h : Q s) : Q (popped s) := k.pair s .sp _ h

theorem InstrKeeps.push16 (hw : mayStore i = true) (w : Word) (h : Q s) : Q (push16 w s) :=
  k.write hw _ _ _ (k.pair _ .sp _ (k.write hw _ _ _ (k.pair s .sp _ h)))

theorem InstrKeeps.retire (cyc : Nat) (h : Q s) : Result.NextWith Q (retire cyc s) := ⟨_, rfl, k.cycles _ _ h⟩

theorem InstrKeeps.retireAdvance (cyc len : Nat) (h : Q s) : Result.NextWith Q (Machine.retire cyc (advance len s)) :=
  k.retire cyc (k.pc _ _ h)

theorem InstrKeeps.writeLoc (loc : Loc8) (v : Byte) (hw : loc = .indHl → mayStore i = true) (h : Q s) :
    Q (writeLoc s loc v) := by
  cases loc with
  | reg r => exact k.reg _ _ _ h
  | indHl => exact k.write (hw rfl) _ _ _ h

theorem InstrKeeps.aluTo (hf : mayWriteFlags i = true) (out : AluOut) (len cyc : Nat) (h : Q s) :
    Result.NextWith Q (aluTo out len cyc s) :=
  k.retireAdvance _ _ (k.flags hf _ _ (k.reg _ .a _ h))

theorem InstrKeeps.aluFlags (hf : mayWriteFlags i = true) (fl : Flags) (len cyc : Nat) (h : Q s) :
    Result.NextWith Q (aluFlags fl len cyc s) :=
  k.retireAdvance _ _ (k.flags hf _ _ h)

theorem InstrKeeps.rotLoc (hf : mayWriteFlags i = true) (op : RotOp) (loc : Loc8) (hw : loc = .indHl → mayStore i = true)
    (h : Q s) : Result.NextWith Q (rotLoc op loc s) :=
  k.retireAdvance _ _ (k.flags hf _ _ (k.writeLoc _ _ hw h))

theorem InstrKeeps.bitBit (hf : mayWriteFlags i = true) (bit : Nat) (loc : Loc8) (h : Q s) :
    Result.NextWith Q (bitBit bit loc s) :=
  k.retireAdvance _ _ (k.flags hf _ _ h)

theorem InstrKeeps.resBit (bit : Nat) (loc : Loc8) (hw : loc = .indHl → mayStore i = true) (h : Q s) :
    Result.NextWith Q (resBit bit loc s) :=
  k.retireAdvance _ _ (k.writeLoc _ _ hw h)

theorem InstrKeeps.setBit (bit : Nat) (loc : Loc8) (hw : loc = .indHl → mayStore i = true) (h : Q s) :
    Result.NextWith Q (setBit bit loc s) :=
  k.retireAdvance _ _ (k.writeLoc _ _ hw h)

theorem InstrKeeps.execCbByte (hf : mayWriteFlags i = true) (hw : mayStore i = true) (b2 : Byte) (h : Q s) :
    Result.NextWith Q (execCbByte b2 s) := by
  unfold Machine.execCbByte
  split
  · exact k.rotLoc hf _ _ (fun _ => hw) h
  · exact k.bitBit hf _ _ h
  · exact k.resBit _ _ (fun _ => hw) h
  · exact k.setBit _ _ (fun _ => hw) h

theorem InstrKeeps.jumpAbs (taken : Bool) (nn : Word) (c1 c2 : Nat) (h : Q s) : Result.NextWith Q (jumpAbs taken nn c1 c2 s) := by
  unfold Machine.jumpAbs
  split
  · exact k.retire _ (k.pc _ _ h)
  · exact k.retireAdvance _ _ h

theorem InstrKeeps.jumpRel (taken : Bool) (e : Byte) (c1 c2 : Nat) (h : Q s) : Result.NextWith Q (jumpRel taken e c1 c2 s) := by
  unfold Machine.jumpRel
  split
  · exact k.retire _ (k.pc _ _ h)
  · exact k.retireAdvance _ _ h

theorem InstrKeeps.callAbs (hw : mayStore i = true) (taken : Bool) (nn : Word) (c1 c2 : Nat) (h : Q s) :
    Result.NextWith Q (callAbs taken nn c1 c2 s) := by
  unfold Machine.callAbs
  split
  · exact k.retire _ (k.pc _ _ (k.push16 hw _ h))
  · exact k.retireAdvance _ _ h

theorem InstrKeeps.returnIf (taken : Bool) (c1 c2 : Nat) (h : Q s) : Result.NextWith Q (returnIf taken c1 c2 s) := by
  unfold Machine.returnIf
  split
  · exact k.retire _ (k.pc _ _ (k.popped h))
  · exact k.retireAdvance _ _ h

theorem InstrKeeps.restart (hw : mayStore i = true) (t : Word) (h : Q s) : Result.NextWith Q (restart t s) :=
  k.retire _ (k.pc _ _ (k.push16 hw _ h))

/-- Every instruction answers a next state, which has what the instruction's own operations keep. -/
theorem InstrKeeps.exec (h : Q s) : Result.NextWith Q (exec i s) := by
  cases i
  case undefined b => exact ⟨_, rfl, k.undef b rfl s h⟩
  case ld_bc_nn | ld_de_nn | ld_hl_nn | ld_sp_nn | inc_bc | inc_de | inc_hl | inc_sp | dec_bc | dec_de | dec_hl |
      dec_sp =>
    exact k.retireAdvance _ _ (k.pair _ _ _ h)
  case ld_b_n | ld_c_n | ld_d_n | ld_e_n | ld_h_n | ld_l_n | ld_a_n | ldh_a_indN | ld_a_indNn | ld_a_indBc |
      ld_a_indDe | ld_a_indC | ld_b_b | ld_b_c | ld_b_d | ld_b_e | ld_b_h | ld_b_l | ld_b_a | ld_c_b | ld_c_c |
      ld_c_d | ld_c_e | ld_c_h | ld_c_l | ld_c_a | ld_d_b | ld_d_c | ld_d_d | ld_d_e | ld_d_h | ld_d_l | ld_d_a |
      ld_e_b | ld_e_c | ld_e_d | ld_e_e | ld_e_h | ld_e_l | ld_e_a | ld_h_b | ld_h_c | ld_h_d | ld_h_e | ld_h_h |
      ld_h_l | ld_h_a | ld_l_b | ld_l_c | ld_l_d | ld_l_e | ld_l_h | ld_l_l | ld_l_a | ld_a_b | ld_a_c | ld_a_d |
      ld_a_e | ld_a_h | ld_a_l | ld_a_a | ld_b_indHl | ld_c_indHl | ld_d_indHl | ld_e_indHl | ld_h_indHl |
      ld_l_indHl | ld_a_indHl =>
    exact k.retireAdvance _ _ (k.reg _ _ _ h)
  case ld_indNn_sp =>
    exact k.retireAdvance _ _ (k.write rfl _ _ _ (k.write rfl _ _ _ h))
  case stop =>
    exact k.retireAdvance _ _ (k.stop ⟨_, rfl⟩ _ h)
  case jr_e =>
    exact k.jumpRel true _ 12 8 h
  case jr_nz_e | jr_z_e | jr_nc_e | jr_c_e =>
    exact k.jumpRel _ _ _ _ h
  case ld_indHl_n | ldh_indN_a | ld_indNn_a | ld_indBc_a | ld_indDe_a | ld_indC_a | ld_indHl_b | ld_indHl_c |
      ld_indHl_d | ld_indHl_e | ld_indHl_h | ld_indHl_l | ld_indHl_a =>
    exact k.retireAdvance _ _ (k.write rfl _ _ _ h)
  case jp_nz_nn | jp_z_nn | jp_nc_nn | jp_c_nn =>
    exact k.jumpAbs _ _ _ _ h
  case jp_nn =>
    exact k.jumpAbs true _ 16 12 h
  case call_nz_nn | call_z_nn | call_nc_nn | call_c_nn =>
    exact k.callAbs rfl _ _ _ _ h
  case add_a_n | add_a_b | add_a_c | add_a_d | add_a_e | add_a_h | add_a_l | add_a_indHl | add_a_a | adc_a_n |
      adc_a_b | adc_a_c | adc_a_d | adc_a_e | adc_a_h | adc_a_l | adc_a_indHl | adc_a_a | sub_n | sub_b | sub_c |
      sub_d | sub_e | sub_h | sub_l | sub_indHl | sub_a | sbc_a_n | sbc_a_b | sbc_a_c | sbc_a_d | sbc_a_e | sbc_a_h |
      sbc_a_l | sbc_a_indHl | sbc_a_a | and_n | and_b | and_c | and_d | and_e | and_h | and_l | and_indHl | and_a |
      xor_n | xor_b | xor_c | xor_d | xor_e | xor_h | xor_l | xor_indHl | xor_a | or_n | or_b | or_c | or_d | or_e |
      or_h | or_l | or_indHl | or_a | daa | cpl =>
    exact k.aluTo rfl _ _ _ h
  case prefix_cb =>
    exact k.execCbByte rfl rfl _ h
  case call_nn =>
    exact k.callAbs rfl true _ 24 12 h
  case add_sp_e =>
    exact k.retireAdvance _ _ (k.flags rfl _ _ (k.pair _ .sp _ h))
  case ld_hl_spE | add_hl_bc | add_hl_de | add_hl_hl | add_hl_sp =>
    exact k.retireAdvance _ _ (k.flags rfl _ _ (k.setHl _ h))
  case cp_n | cp_b | cp_c | cp_d | cp_e | cp_h | cp_l | cp_indHl | cp_a | scf | ccf =>
    exact k.aluFlags rfl _ _ _ h
  case nop =>
    exact k.retireAdvance _ _ h
  case inc_b | inc_c | inc_d | inc_e | inc_h | inc_l | inc_a | dec_b | dec_c | dec_d | dec_e | dec_h | dec_l |
      dec_a =>
    exact k.retireAdvance _ _ (k.flags rfl _ _ (k.reg _ _ _ h))
  case rlca | rrca | rla | rra =>
    exact k.retireAdvance _ _ (k.flags rfl _ _ (k.reg _ .a _ h))
  case ld_indHlInc_a | ld_indHlDec_a =>
    exact k.retireAdvance _ _ (k.setHl _ (k.write rfl _ _ _ h))
  case ld_a_indHlInc | ld_a_indHlDec =>
    exact k.retireAdvance _ _ (k.setHl _ (k.reg _ _ _ h))
  case inc_indHl | dec_indHl =>
    exact k.retireAdvance _ _ (k.flags rfl _ _ (k.write rfl _ _ _ h))
  case halt =>
    exact k.retireAdvance _ _ (k.halt rfl _ h)
  case ret_nz | ret_z | ret_nc | ret_c =>
    exact k.returnIf _ _ _ h
  case pop_bc =>
    exact k.retireAdvance _ _ (k.pair _ .bc _ (k.popped h))
  case pop_de =>
    exact k.retireAdvance _ _ (k.pair _ .de _ (k.popped h))
  case pop_hl =>
    exact k.retireAdvance _ _ (k.pair _ .hl _ (k.popped h))
  case pop_af =>
    exact k.retireAdvance _ _ (k.popAf rfl _ _ (k.popped h))
  case push_bc | push_de | push_hl | push_af =>
    exact k.retireAdvance _ _ (k.push16 rfl _ h)
  case rst_00 | rst_08 | rst_10 | rst_18 | rst_20 | rst_28 | rst_30 | rst_38 =>
    exact k.restart rfl _ h
  case ret =>
    exact k.returnIf true 16 8 h
  case reti =>
    exact k.retire _ (k.ime (.inr rfl) _ true (k.pc _ (popValue s) (k.popped h)))
  case jp_hl =>
    exact k.retire _ (k.pc _ _ h)
  case di =>
    exact k.retireAdvance _ _ (k.ime (.inl rfl) _ _ h)
  case ld_sp_hl =>
    exact k.retireAdvance _ _ (k.pair _ .sp _ h)
  case ei =>
    exact k.retireAdvance _ _ (k.ei rfl _ h)
  case rlc_b | rlc_c | rlc_d | rlc_e | rlc_h | rlc_l | rlc_indHl | rlc_a | rrc_b | rrc_c | rrc_d | rrc_e | rrc_h |
      rrc_l | rrc_indHl | rrc_a | rl_b | rl_c | rl_d | rl_e | rl_h | rl_l | rl_indHl | rl_a | rr_b | rr_c | rr_d |
      rr_e | rr_h | rr_l | rr_indHl | rr_a | sla_b | sla_c | sla_d | sla_e | sla_h | sla_l | sla_indHl | sla_a |
      sra_b | sra_c | sra_d | sra_e | sra_h | sra_l | sra_indHl | sra_a | swap_b | swap_c | swap_d | swap_e | swap_h |
      swap_l | swap_indHl | swap_a | srl_b | srl_c | srl_d | srl_e | srl_h | srl_l | srl_indHl | srl_a =>
    exact k.rotLoc rfl _ _ (by decide) h
  case bit_0_b | bit_0_c | bit_0_d | bit_0_e | bit_0_h | bit_0_l | bit_0_indHl | bit_0_a | bit_1_b | bit_1_c |
      bit_1_d | bit_1_e | bit_1_h | bit_1_l | bit_1_indHl | bit_1_a | bit_2_b | bit_2_c | bit_2_d | bit_2_e |
      bit_2_h | bit_2_l | bit_2_indHl | bit_2_a | bit_3_b | bit_3_c | bit_3_d | bit_3_e | bit_3_h | bit_3_l |
      bit_3_indHl | bit_3_a | bit_4_b | bit_4_c | bit_4_d | bit_4_e | bit_4_h | bit_4_l | bit_4_indHl | bit_4_a |
      bit_5_b | bit_5_c | bit_5_d | bit_5_e | bit_5_h | bit_5_l | bit_5_indHl | bit_5_a | bit_6_b | bit_6_c |
      bit_6_d | bit_6_e | bit_6_h | bit_6_l | bit_6_indHl | bit_6_a | bit_7_b | bit_7_c | bit_7_d | bit_7_e |
      bit_7_h | bit_7_l | bit_7_indHl | bit_7_a =>
    exact k.bitBit rfl _ _ h
  case res_0_b | res_0_c | res_0_d | res_0_e | res_0_h | res_0_l | res_0_indHl | res_0_a | res_1_b | res_1_c |
      res_1_d | res_1_e | res_1_h | res_1_l | res_1_indHl | res_1_a | res_2_b | res_2_c | res_2_d | res_2_e |
      res_2_h | res_2_l | res_2_indHl | res_2_a | res_3_b | res_3_c | res_3_d | res_3_e | res_3_h | res_3_l |
      res_3_indHl | res_3_a | res_4_b | res_4_c | res_4_d | res_4_e | res_4_h | res_4_l | res_4_indHl | res_4_a |
      res_5_b | res_5_c | res_5_d | res_5_e | res_5_h | res_5_l | res_5_indHl | res_5_a | res_6_b | res_6_c |
      res_6_d | res_6_e | res_6_h | res_6_l | res_6_indHl | res_6_a | res_7_b | res_7_c | res_7_d | res_7_e |
      res_7_h | res_7_l | res_7_indHl | res_7_a =>
    exact k.resBit _ _ (by decide) h
  case set_0_b | set_0_c | set_0_d | set_0_e | set_0_h | set_0_l | set_0_indHl | set_0_a | set_1_b | set_1_c |
      set_1_d | set_1_e | set_1_h | set_1_l | set_1_indHl | set_1_a | set_2_b | set_2_c | set_2_d | set_2_e |
      set_2_h | set_2_l | set_2_indHl | set_2_a | set_3_b | set_3_c | set_3_d | set_3_e | set_3_h | set_3_l |
      set_3_indHl | set_3_a | set_4_b | set_4_c | set_4_d | set_4_e | set_4_h | set_4_l | set_4_indHl | set_4_a |
      set_5_b | set_5_c | set_5_d | set_5_e | set_5_h | set_5_l | set_5_indHl | set_5_a | set_6_b | set_6_c |
      set_6_d | set_6_e | set_6_h | set_6_l | set_6_indHl | set_6_a | set_7_b | set_7_c | set_7_d | set_7_e |
      set_7_h | set_7_l | set_7_indHl | set_7_a =>
    exact k.setBit _ _ (by decide) h

theorem InstrKeeps.exec_next {t : State} (h : Q s) (ht : Machine.exec i s = .next t) : Q t := by
  obtain ⟨t', ht', hQ⟩ := k.exec h
  cases ht.symm.trans ht'
  exact hQ

end Sys2Proof.Machine
end

section
/-! PROOFS. The registers, the pairs and the flags (10_state.md R31 to R33). -/

namespace Sys2Proof.Machine

open Sys2Proof.Rows

theorem setReg_eq (s : State) (r : Reg8) (v : Byte) : s.setReg r v = { s with
    a := if r = .a then v else s.a, b := if r = .b then v else s.b, c := if r = .c then v else s.c
    d := if r = .d then v else s.d, e := if r = .e then v else s.e, h := if r = .h then v else s.h
    l := if r = .l then v else s.l } := by
  cases r <;> rfl

theorem reg16_setReg16 (s : State) (p : Reg16) (w : Word) : (s.setReg16 p w).reg16 p = w := by
  cases p
  case sp => rfl
  all_goals exact word_hi_lo w

/-- The low four bits of F are not stored (R32), so AF loses them. -/
theorem word_maskFlags (w : Word) : word (hi w) (lo w &&& 0xF0#8) = w &&& 0xFFF0#16 := by
  have bytes : word (hi w &&& 0xFF#8) (lo w &&& 0xF0#8) = word (hi w) (lo w) &&& word 0xFF#8 0xF0#8 :=
    BitVec.and_append.symm
  have whole : hi w &&& 0xFF#8 = hi w := BitVec.and_allOnes
  rw [whole, word_hi_lo] at bytes
  exact bytes

theorem stackPair_setStackPair (s : State) (q : StackPair) (w : Word) :
    (s.setStackPair q w).stackPair q = if q = .af then w &&& 0xFFF0#16 else w := by
  cases q
  case af => exact word_maskFlags w
  all_goals exact word_hi_lo w

/-- The two bytes of a word, as numbers. -/
theorem hi_lo_of_toNat {w : Word} {x y : Byte} (hx : x.toNat = w.toNat / 256) (hy : y.toNat = w.toNat % 256) :
    hi w = x ∧ lo w = y :=
  ⟨BitVec.eq_of_toNat_eq ((hi_toNat w).trans hx.symm), BitVec.eq_of_toNat_eq ((lo_toNat w).trans hy.symm)⟩

theorem packFlags_eq_flagByte (fl : Flags) : packFlags fl = flagByte fl.z fl.n fl.h fl.c := by
  rcases fl with ⟨z, n, h, c⟩
  revert z n h c
  decide

theorem maskFlags_low (v : Byte) : (v &&& 0xF0#8) &&& 0x0F#8 = 0x00#8 := by
  rw [BitVec.and_assoc]
  exact BitVec.and_zero

/-- F stays what it was or gets four low bits of 0. -/
theorem flagsKeptOrLow_stepKeeps (f : Byte) : StepKeeps fun t => t.f = f ∨ t.f &&& 0x0F#8 = 0x00#8 where
  reg s r v h := by simpa using h
  acc _ _ h := h
  flags _ fl _ := .inr (packFlags_low fl)
  pair s r w h := by simpa using h
  stackPair s q w h := by
    cases q
    case af => exact .inr (maskFlags_low (lo w))
    all_goals exact h
  sp _ _ h := h
  pc _ _ h := h
  write s addr v h := by simpa using h
  cycles _ _ h := h
  halt _ h := h
  stop _ h := h
  ime _ _ h := h
  ei _ h := h
  mode _ _ h := h
  irq _ _ h := h
  rows _ _ _ h := h
  events _ _ h := h
  devices s h := by simpa using h

theorem launch_flagsLow {p : LaunchParams} {s : State} (h : launch p = .ok s) : s.f &&& 0x0F#8 = 0x00#8 := by
  obtain ⟨banked, ⟨-, rfl⟩ | ⟨bytes, -, -, rfl⟩⟩ := launch_cases h
  · exact reset_controlLegal.flagsLow
  · exact maskFlags_low p.regs.f

/-- Settles O14: the views and their frames register by register, and F through every instruction, step and launch. -/
theorem registersAndPairViews : Obligations.RegistersAndPairViews := by
  refine ⟨setReg_reg, setReg_eq, reg16_setReg16, stackPair_setStackPair, fun s w x y hx hy => ?_,
    fun s => ⟨word_toNat s.a s.f, word_toNat s.b s.c, word_toNat s.d s.e, word_toNat s.h s.l⟩,
    fun fl => ⟨packFlags_eq_flagByte fl, packFlags_low fl⟩,
    fun i s t ht => (flagsKeptOrLow_stepKeeps s.f).exec i (.inl rfl) ht,
    fun s t ht => (flagsKeptOrLow_stepKeeps s.f).step (.inl rfl) ht, fun p s => launch_flagsLow⟩
  obtain ⟨rfl, rfl⟩ := hi_lo_of_toNat hx hy
  exact ⟨rfl, rfl, rfl, rfl, rfl, rfl, rfl, rfl⟩

theorem flags_instrKeeps {i : Instr} (hi : mayWriteFlags i = false) (f : Byte) : InstrKeeps i fun t => t.f = f where
  reg s r v h := by simpa using h
  pair s r w h := by simpa using h
  pc _ _ h := h
  cycles _ _ h := h
  flags hf := absurd hf (by simp [hi])
  popAf hf := absurd hf (by simp [hi])
  write _ s addr v h := by simpa using h
  halt _ _ h := h
  stop _ _ h := h
  ime _ _ _ h := h
  ei _ _ h := h
  undef _ _ _ h := h

/-- Settles O15: of the operations that other instructions are made of, none writes F. -/
theorem otherInstructionsLeaveFlags : Obligations.OtherInstructionsLeaveFlags :=
  fun _ s _ hi ht => (flags_instrKeeps hi s.f).exec_next rfl ht

end Sys2Proof.Machine
end

section
/-! PROOFS. What the launch fixed (10_state.md R39, R41, 00_scope.md R8). -/

namespace Sys2Proof.Machine

/-- What the launch fixed is the same in both states. -/
structure SameLaunch (s t : State) : Prop where
  rom : t.rom = s.rom
  romSize : t.romSize = s.romSize
  boot : t.boot = s.boot
  cartBanked : t.cartBanked = s.cartBanked
  haltWakeNeedsIe : t.haltWakeNeedsIe = s.haltWakeNeedsIe

theorem SameLaunch.trans {s t u : State} (h : SameLaunch s t) (h' : SameLaunch t u) : SameLaunch s u :=
  ⟨h'.rom.trans h.rom, h'.romSize.trans h.romSize, h'.boot.trans h.boot, h'.cartBanked.trans h.cartBanked,
    h'.haltWakeNeedsIe.trans h.haltWakeNeedsIe⟩

theorem sameLaunch_stepKeeps (s0 : State) : StepKeeps (SameLaunch s0) where
  reg _ _ _ h := h.trans (by constructor <;> simp)
  acc _ _ h := h.trans ⟨rfl, rfl, rfl, rfl, rfl⟩
  flags _ _ h := h.trans ⟨rfl, rfl, rfl, rfl, rfl⟩
  pair _ _ _ h := h.trans (by constructor <;> simp)
  stackPair _ _ _ h := h.trans (by constructor <;> simp)
  sp _ _ h := h.trans ⟨rfl, rfl, rfl, rfl, rfl⟩
  pc _ _ h := h.trans ⟨rfl, rfl, rfl, rfl, rfl⟩
  write _ _ _ h := h.trans (by constructor <;> simp)
  cycles _ _ h := h.trans ⟨rfl, rfl, rfl, rfl, rfl⟩
  halt _ h := h.trans ⟨rfl, rfl, rfl, rfl, rfl⟩
  stop _ h := h.trans ⟨rfl, rfl, rfl, rfl, rfl⟩
  ime _ _ h := h.trans ⟨rfl, rfl, rfl, rfl, rfl⟩
  ei _ h := h.trans ⟨rfl, rfl, rfl, rfl, rfl⟩
  mode _ _ h := h.trans ⟨rfl, rfl, rfl, rfl, rfl⟩
  irq _ _ h := h.trans ⟨rfl, rfl, rfl, rfl, rfl⟩
  rows _ _ _ h := h.trans ⟨rfl, rfl, rfl, rfl, rfl⟩
  events _ _ h := h.trans ⟨rfl, rfl, rfl, rfl, rfl⟩
  devices _ h := h.trans (by constructor <;> simp)

/-- The only write that moves the overlay is the one of 0xFF50, which unmaps it (20_memory.md R103). -/
theorem bootUnmapped_stepKeeps : StepKeeps fun t => t.bootMapped = false where
  reg s r v h := by simpa using h
  acc _ _ h := h
  flags _ _ h := h
  pair s r w h := by simpa using h
  stackPair s q w h := by simpa using h
  sp _ _ h := h
  pc _ _ h := h
  write _ addr v h := memWrite_bootMapped_of_false addr v h
  cycles _ _ h := h
  halt _ h := h
  stop _ h := h
  ime _ _ h := h
  ei _ h := h
  mode _ _ h := h
  irq _ _ h := h
  rows _ _ _ h := h
  events _ _ h := h
  devices s h := by simpa using h

/-- Settles O10: both are kept by every part of a step. -/
theorem stepKeepsLaunchState : Obligations.StepKeepsLaunchState := by
  intro s t ht
  obtain ⟨rom, romSize, boot, cartBanked, wake⟩ := (sameLaunch_stepKeeps s).step ⟨rfl, rfl, rfl, rfl, rfl⟩ ht
  exact ⟨rom, romSize, boot, cartBanked, wake, fun hb => bootUnmapped_stepKeeps.step hb ht⟩

end Sys2Proof.Machine
end

section
/-! PROOFS. The interrupt check and the dispatch (10_state.md R43, R44, 60_exceptions.md R421 to R423). -/

namespace Sys2Proof.Machine

open Sys2Proof.Rows

theorem pendingIrq_eq_some (s : State) (i : IrqSource) : pendingIrq s = some i ↔
    (s.ieReg &&& s.ifReg).getLsbD (irqBit i) = true ∧ ∀ j, j < irqBit i → (s.ieReg &&& s.ifReg).getLsbD j = false := by
  unfold pendingIrq
  generalize s.ieReg &&& s.ifReg = p
  revert p
  cases i <;> decide

theorem pendingIrq_eq_none (s : State) : pendingIrq s = none ↔ s.ieReg &&& s.ifReg = 0#5 := by
  unfold pendingIrq
  generalize s.ieReg &&& s.ifReg = p
  revert p
  decide

/-- `push16` is the push of R226. -/
theorem push16_eq_pushed (w : Word) (s : State) : push16 w s = pushed s w := by
  rw [push16_eq, sub_one_one, pushed]

theorem irqVector_eq (i : IrqSource) : irqVector i = BitVec.ofNat 16 (0x40 + 8 * irqBit i) := by
  cases i <;> rfl

theorem dispatch_eq (i : IrqSource) (s : State) : dispatch i s = { pushed s s.pc with
    ime := false, eiPending := false
    ifReg := (pushed s s.pc).ifReg &&& ~~~(1#5 <<< irqBit i)
    pc := BitVec.ofNat 16 (0x40 + 8 * irqBit i) } := by
  rw [← irqVector_eq, ← push16_eq_pushed]
  rfl

@[simp] theorem dispatch_ime (i : IrqSource) (s : State) : (dispatch i s).ime = false := rfl

@[simp] theorem dispatch_eiPending (i : IrqSource) (s : State) : (dispatch i s).eiPending = false := rfl

/-- The dispatch that begins a step: it counts its 20 cycles from 0. -/
theorem checkInterrupts_dispatches {s : State} {i : IrqSource} (him : s.ime = true) (hp : pendingIrq s = some i)
    (hh : s.eiPending = true → Config.eiHoldsDispatch = false) :
    checkInterrupts { s with cycles := 0 } = { pushed s s.pc with
      ime := false, eiPending := false
      ifReg := (pushed s s.pc).ifReg &&& ~~~(1#5 <<< irqBit i)
      pc := BitVec.ofNat 16 (0x40 + 8 * irqBit i), cycles := 20 } := by
  have push : pushed { s with cycles := 0 } s.pc = { pushed s s.pc with cycles := 0 } := by
    rw [← push16_eq_pushed, push16_atCycles, push16_eq_pushed]
  rw [checkInterrupts_some (s := { s with cycles := 0 }) him (heldByEi_eq_false.mpr hh) hp, dispatch_eq, push]
  rfl

/-- A step of a Running machine without a host event. -/
theorem step_running {s : State} (he : s.hostEvents = []) (hm : s.cpuMode = .running) :
    step s = finishStep (fetchInstr (checkInterrupts { s with cycles := 0 }))
      (exec (fetchInstr (checkInterrupts { s with cycles := 0 })) (checkInterrupts { s with cycles := 0 })) := by
  rw [step_noEvents he, systemStep, cpuStart_running hm]

theorem noDispatch_iff (s : State) : noDispatch s = true ↔
    s.ime = false ∨ pendingIrq s = none ∨ (s.eiPending = true ∧ Config.eiHoldsDispatch = true) := by
  simp [noDispatch, heldByEi, or_assoc]

/-- Settles O42: the pending source bit by bit, and the check before the fetch in each of its two outcomes. -/
theorem interruptDispatch : Obligations.InterruptDispatch := by
  refine ⟨rfl, pendingIrq_eq_some, pendingIrq_eq_none, ?dispatched, ?quiet⟩
  case dispatched =>
    rintro s _ i he hm him hp hh rfl
    rw [step_running he hm, checkInterrupts_dispatches him hp hh]
  case quiet =>
    rintro s _ he hm hq rfl
    rw [← pendingIrq_eq_none, ← noDispatch_iff] at hq
    rw [step_running he hm, checkInterrupts_none (s := { s with cycles := 0 }) hq]

end Sys2Proof.Machine
end

section
/-! PROOFS. The EI delay latch (10_state.md R38, 45_system.md R394, 70_reset_and_hazards.md R551). -/

namespace Sys2Proof.Machine

open Sys2Proof.Rows

/-- No instruction but DI, EI and RETI touches IME or a pending EI. -/
theorem interruptState_instrKeeps {i : Instr} (ei : i ≠ .ei) (di : i ≠ .di) (reti : i ≠ .reti) (x y : Bool) :
    InstrKeeps i fun t => t.ime = x ∧ t.eiPending = y where
  reg s r v h := by simpa using h
  pair s r w h := by simpa using h
  pc _ _ h := h
  cycles _ _ h := h
  flags _ _ _ h := h
  popAf _ s w h := by simpa using h
  write _ s addr v h := by simpa using h
  halt _ _ h := h
  stop _ _ h := h
  ime hi := absurd hi (by simp [di, reti])
  ei hi := absurd hi ei
  undef _ _ _ h := h

theorem eiLatch_of_not_pending (i : Instr) {s : State} (h : s.eiPending = false) : eiLatch i s = s := by
  unfold eiLatch
  simp only [h, Bool.false_eq_true, if_false]
  split <;> rfl

theorem eiLatch_of_pending {i : Instr} {s : State} (h : s.eiPending = true) (ei : i ≠ .ei) (undef : ∀ b, i ≠ .undefined b) :
    eiLatch i s = { s with ime := true, eiPending := false } := by
  unfold eiLatch
  split
  · exact absurd rfl ei
  · exact absurd rfl (undef _)
  · exact if_pos h

/-- A step at a fetch: the instruction at PC, the latch, the devices. -/
theorem step_atFetch {s t : State} (hs : atFetch s) (ht : step s = .next t) :
    ∃ r, exec (fetchInstr s) { s with cycles := 0 } = .next r ∧ t = tickDevices (eiLatch (fetchInstr s) r) := by
  obtain ⟨he, hm, hd⟩ := hs
  rw [step_running he hm, checkInterrupts_none (s := { s with cycles := 0 }) hd, fetchInstr_atCycles] at ht
  cases hr : exec (fetchInstr s) { s with cycles := 0 } <;> rw [hr] at ht <;> cases ht
  exact ⟨_, rfl, rfl⟩

/-- The interrupt state that a step leaves is the one after the latch. -/
theorem step_interruptState {s t : State} (hs : atFetch s) (ht : step s = .next t) :
    ∃ r, exec (fetchInstr s) { s with cycles := 0 } = .next r ∧ t.ime = (eiLatch (fetchInstr s) r).ime ∧
      t.eiPending = (eiLatch (fetchInstr s) r).eiPending := by
  obtain ⟨r, hr, rfl⟩ := step_atFetch hs ht
  exact ⟨r, hr, by simp, by simp⟩

section Fetched

variable {s t : State} (hs : atFetch s) (ht : step s = .next t)
include hs ht

theorem step_ei (hi : fetchInstr s = .ei) : t.ime = s.ime ∧ t.eiPending = true := by
  obtain ⟨r, hr, hime, hei⟩ := step_interruptState hs ht
  rw [hi] at hr hime hei
  cases hr
  exact ⟨hime, hei⟩

theorem step_di (hi : fetchInstr s = .di) : t.ime = false ∧ t.eiPending = false := by
  obtain ⟨r, hr, hime, hei⟩ := step_interruptState hs ht
  rw [hi] at hr hime hei
  cases hr
  exact ⟨hime, hei⟩

/-- No dispatch comes between EI and the next instruction, but where R422 and R551 differ (log 21). -/
theorem step_ei_noDispatch (hi : fetchInstr s = .ei)
    (hc : s.ime = false ∨ pendingIrq s ≠ none ∨ Config.eiHoldsDispatch = true) : noDispatch t = true := by
  obtain ⟨hime, hei⟩ := step_ei hs ht hi
  have atStart := (noDispatch_iff s).mp hs.2.2
  have closed : s.ime = false ∨ Config.eiHoldsDispatch = true := by
    rcases hc with him | hp | hh
    · exact .inl him
    · exact atStart.imp id fun h => (h.resolve_left hp).2
    · exact .inr hh
  rw [noDispatch_iff, hime, hei]
  exact closed.imp id fun hh => .inr ⟨rfl, hh⟩

theorem step_pendingEi_takesEffect (hp : s.eiPending = true) (ei : fetchInstr s ≠ .ei) (di : fetchInstr s ≠ .di)
    (hu : isUndefinedByte (memRead s s.pc) = false) : t.ime = true ∧ t.eiPending = false := by
  obtain ⟨r, hr, hime, hei⟩ := step_interruptState hs ht
  by_cases reti : fetchInstr s = .reti
  · rw [reti] at hr hime hei
    cases hr
    exact ⟨hime, hei⟩
  · obtain ⟨-, pending⟩ := (interruptState_instrKeeps ei di reti s.ime true).exec_next
      (s := { s with cycles := 0 }) ⟨rfl, hp⟩ hr
    have undef : ∀ b, fetchInstr s ≠ .undefined b := fun b hb => by
      rw [(fetchInstr_eq_undefined.mp hb).1] at hu
      cases hu
    rw [eiLatch_of_pending pending ei undef] at hime hei
    exact ⟨hime, hei⟩

theorem step_noPendingEi_keeps (hp : s.eiPending = false) (ei : fetchInstr s ≠ .ei) (di : fetchInstr s ≠ .di)
    (reti : fetchInstr s ≠ .reti) : t.ime = s.ime ∧ t.eiPending = false := by
  obtain ⟨r, hr, hime, hei⟩ := step_interruptState hs ht
  obtain ⟨sameIme, none⟩ := (interruptState_instrKeeps ei di reti s.ime false).exec_next
      (s := { s with cycles := 0 }) ⟨rfl, hp⟩ hr
  rw [eiLatch_of_not_pending _ none] at hime hei
  exact ⟨hime.trans sameIme, hei.trans none⟩

end Fetched

/-- Settles O43: each instruction's own effect on IME and the latch, then the latch at the end of its step. -/
theorem eiTakesEffectOneInstructionLater : Obligations.EiTakesEffectOneInstructionLater :=
  ⟨fun _ _ hs ht => ⟨step_ei_noDispatch hs ht, step_ei hs ht, step_di hs ht, step_pendingEi_takesEffect hs ht,
      step_noPendingEi_keeps hs ht⟩,
    fun s i => ⟨dispatch_ime i s, dispatch_eiPending i s⟩, fun _ _ _ => rfl⟩

end Sys2Proof.Machine
end

section
/-! SUPPORT. The address decode (20_memory.md R82): what an address of each range reaches, and which addresses reach a device
register. -/

namespace Sys2Proof.Machine

section Ranges

variable {s : State} {addr : Word}

theorem busTarget_boot (h : addr.toNat < 0x100) (hb : s.bootMapped = true) : busTarget s addr = .boot addr.toNat := by
  simp only [busTarget, if_pos (And.intro h hb)]

theorem busTarget_rom (h : addr.toNat < 0x4000) (hb : s.bootMapped = false ∨ 0x100 ≤ addr.toNat) :
    busTarget s addr = .rom addr.toNat := by
  have notBoot : ¬(addr.toNat < 0x100 ∧ s.bootMapped = true) := by
    rintro ⟨hn, hm⟩
    rcases hb with hb | hb
    · simp [hb] at hm
    · omega
  simp only [busTarget, if_neg notBoot, if_pos h]

/-- Every address below 0x8000 reaches the boot ROM or the ROM, whose writes are the cartridge control's (R93). -/
theorem busTarget_cart (h : addr.toNat < 0x8000) : ∃ i, busTarget s addr = .boot i ∨ busTarget s addr = .rom i := by
  simp (disch := omega) only [busTarget, if_pos]
  split
  · exact ⟨_, .inl rfl⟩
  · split <;> exact ⟨_, .inr rfl⟩

theorem busTarget_switchable (h : 0x4000 ≤ addr.toNat) (h' : addr.toNat < 0x8000) :
    busTarget s addr = .rom (switchableRomOffset s addr.toNat) := by
  simp (disch := omega) only [busTarget, if_pos, if_neg]

theorem busTarget_vram (h : 0x8000 ≤ addr.toNat) (h' : addr.toNat < 0xA000) :
    busTarget s addr = .vram (addr.toNat - 0x8000) := by
  simp (disch := omega) only [busTarget, if_pos, if_neg]

theorem busTarget_eramWindow (h : 0xA000 ≤ addr.toNat) (h' : addr.toNat < 0xC000) :
    busTarget s addr = eramTarget s addr.toNat := by
  simp (disch := omega) only [busTarget, if_pos, if_neg]

theorem busTarget_wram (h : 0xC000 ≤ addr.toNat) (h' : addr.toNat < 0xE000) :
    busTarget s addr = .wram (addr.toNat - 0xC000) := by
  simp (disch := omega) only [busTarget, if_pos, if_neg]

theorem busTarget_echo (h : 0xE000 ≤ addr.toNat) (h' : addr.toNat < 0xFE00) :
    busTarget s addr = .wram (addr.toNat - 0xE000) := by
  simp (disch := omega) only [busTarget, if_pos, if_neg]

theorem busTarget_oam (h : 0xFE00 ≤ addr.toNat) (h' : addr.toNat < 0xFEA0) :
    busTarget s addr = .oam (addr.toNat - 0xFE00) := by
  simp (disch := omega) only [busTarget, if_pos, if_neg]

theorem busTarget_unusable (h : 0xFEA0 ≤ addr.toNat) (h' : addr.toNat < 0xFF00) : busTarget s addr = .unusable := by
  simp (disch := omega) only [busTarget, if_pos, if_neg]

theorem busTarget_ioPage (h : 0xFF00 ≤ addr.toNat) (h' : addr.toNat < 0xFF80) :
    busTarget s addr = (ioReg? addr.toNat).elim .ioUnmapped .io := by
  simp (disch := omega) only [busTarget, if_pos, if_neg]
  cases ioReg? addr.toNat <;> rfl

theorem busTarget_hram (h : 0xFF80 ≤ addr.toNat) (h' : addr.toNat < 0xFFFF) :
    busTarget s addr = .hram (addr.toNat - 0xFF80) := by
  simp (disch := omega) only [busTarget, if_pos, if_neg]

end Ranges

theorem ioReg?_ioAddr (r : IoReg) : ioReg? (ioAddr r).toNat = some r := by cases r <;> rfl

theorem ioReg?_eq_some {addr : Word} {r : IoReg} : ioReg? addr.toNat = some r ↔ addr = ioAddr r := by
  constructor
  · intro h
    apply BitVec.eq_of_toNat_eq
    unfold ioReg? at h
    split at h <;> cases h <;> assumption
  · rintro rfl
    exact ioReg?_ioAddr r

theorem busTarget_eq_io {s : State} {addr : Word} {r : IoReg} : busTarget s addr = .io r ↔ addr = ioAddr r := by
  constructor
  · intro h
    have page : 0xFF00 ≤ addr.toNat ∧ addr.toNat < 0xFF80 := by
      revert h
      simp only [busTarget, eramTarget]
      (repeat' split) <;> simp only [reduceCtorEq, false_implies, BusTarget.io.injEq]
      omega
    rw [busTarget_ioPage page.1 page.2] at h
    cases hr : ioReg? addr.toNat <;> rw [hr] at h <;> cases h
    exact ioReg?_eq_some.mp hr
  · rintro rfl
    exact busTarget_ioAddr s r

theorem memRead_of_busTarget {s : State} {addr : Word} {target : BusTarget} (h : busTarget s addr = target) :
    memRead s addr = readTarget s target := congrArg (readTarget s) h

end Sys2Proof.Machine
end

section
/-! PROOFS. What a read of each address range gives (20_memory.md R82 to R91, R98 to R102, R104). -/

namespace Sys2Proof.Machine

open Sys2Proof.Rows

/-- A search in the table of registers by address is a search for the register that stands there. -/
theorem lookup_map_ioAddr (f : IoReg → Byte) (addr : Word) (rs : List IoReg) :
    (rs.map fun r => (ioAddr r, f r)).lookup addr = (rs.find? fun r => addr == ioAddr r).map f := by
  induction rs with
  | nil => rfl
  | cons r rs ih =>
    rw [List.map_cons, List.lookup_cons, List.find?_cons]
    cases addr == ioAddr r
    · exact ih
    · rfl

/-- The decode of the I/O page finds each register at its address (R100). -/
theorem find?_ioRegs (addr : Word) : (ioRegs.find? fun r => addr == ioAddr r) = ioReg? addr.toNat := by
  cases h : ioReg? addr.toNat with
  | none =>
    refine List.find?_eq_none.mpr fun r _ hr => ?_
    rw [eq_of_beq hr, ioReg?_ioAddr] at h
    cases h
  | some r =>
    rw [ioReg?_eq_some.mp h]
    cases r <;> rfl

theorem memRead_ioPage (s : State) {addr : Word} (h : 0xFF00 ≤ addr.toNat) (h' : addr.toNat < 0xFF80) :
    memRead s addr = ((ioReads s).lookup addr).getD 0xFF#8 := by
  rw [memRead_of_busTarget (busTarget_ioPage h h'), ioReads_eq, lookup_map_ioAddr, find?_ioRegs]
  cases ioReg? addr.toNat <;> rfl

theorem readTarget_eramTarget (s : State) (n : Nat) : readTarget s (eramTarget s n) =
    if s.cartBanked = false then s.eram.read (n - 0xA000)
    else if s.ramEnabled = true then s.eram.read (s.ramBank.toNat * 0x2000 + (n - 0xA000)) else 0xFF#8 := by
  unfold eramTarget
  cases s.cartBanked
  · rfl
  · cases s.ramEnabled <;> rfl

theorem switchableRomOffset_unbanked {s : State} (h : s.cartBanked = false) (n : Nat) : switchableRomOffset s n = n := by
  simp [switchableRomOffset, h]

theorem switchableRomOffset_banked {s : State} (h : s.cartBanked = true) (n : Nat) :
    switchableRomOffset s n = s.romBank.toNat % (s.romSize / 0x4000) * 0x4000 + (n - 0x4000) := if_pos h

theorem ie_toNat (ieReg : BitVec 5) : (0b000#3 ++ ieReg : Byte).toNat = ieReg.toNat := by
  revert ieReg
  decide

/-- Settles O46: the decode of each range, then the byte its target gives. -/
theorem addressMapReads : Obligations.AddressMapReads := by
  intro s addr
  refine ⟨fun h hb m hm => ?boot, fun h hb => memRead_of_busTarget (busTarget_rom h hb), fun h h' hc => ?unbanked,
    fun h h' hc _ => ?banked, fun h h' => memRead_of_busTarget (busTarget_vram h h'), fun h h' => ?eram,
    fun h h' => memRead_of_busTarget (busTarget_wram h h'), fun h h' => memRead_of_busTarget (busTarget_echo h h'),
    fun h h' => memRead_of_busTarget (busTarget_oam h h'), fun h h' => memRead_of_busTarget (busTarget_unusable h h'),
    memRead_ioPage s, fun h h' => memRead_of_busTarget (busTarget_hram h h'), ?ie⟩
  case boot =>
    rw [memRead_of_busTarget (busTarget_boot h hb), readTarget, readBoot, hm]
  case unbanked =>
    rw [memRead_of_busTarget (busTarget_switchable h h'), switchableRomOffset_unbanked hc, readTarget]
  case banked =>
    rw [memRead_of_busTarget (busTarget_switchable h h'), switchableRomOffset_banked hc, readTarget]
  case eram =>
    rw [memRead_of_busTarget (busTarget_eramWindow h h'), readTarget_eramTarget]
  case ie =>
    rintro rfl
    rw [memRead_ie, ie_toNat]

end Sys2Proof.Machine
end

section
/-! PROOFS. The cartridge control writes (20_memory.md R93 to R97). -/

namespace Sys2Proof.Machine

theorem memWrite_cart (s : State) {addr : Word} (v : Byte) (h : addr.toNat < 0x8000) :
    memWrite s addr v = cartWrite addr v s := by
  obtain ⟨i, hi | hi⟩ := busTarget_cart (s := s) h <;> rw [memWrite, hi]

/-! ## The fields, as numbers -/

theorem romBank_packed : ∀ (high : BitVec 2) (low : BitVec 5),
    (high ++ low : BitVec 7) = BitVec.ofNat 7 (high.toNat * 32 + low.toNat) := by decide

theorem lowNibble_eq_ten (v : Byte) : v.extractLsb' 0 4 = 0xA#4 ↔ v.toNat % 16 = 10 := by
  rw [← BitVec.toNat_inj, BitVec.extractLsb'_toNat, Nat.shiftRight_zero]
  rfl

theorem low5_toNat {w : Nat} (x : BitVec w) : (x.extractLsb' 0 5).toNat = x.toNat % 32 := by
  rw [BitVec.extractLsb'_toNat, Nat.shiftRight_zero]

theorem low2_toNat {w : Nat} (x : BitVec w) : (x.extractLsb' 0 2).toNat = x.toNat % 4 := by
  rw [BitVec.extractLsb'_toNat, Nat.shiftRight_zero]

theorem high2_toNat (x : BitVec 7) : (x.extractLsb' 5 2).toNat = x.toNat / 32 := by
  have := x.isLt
  rw [BitVec.extractLsb'_toNat, Nat.shiftRight_eq_div_pow]
  omega

/-- The low bits a write of v selects (R95): 0 becomes 1. -/
theorem bankLow_toNat (v : Byte) :
    (if v.extractLsb' 0 5 = 0#5 then 1#5 else v.extractLsb' 0 5).toNat = if v.toNat % 32 = 0 then 1 else v.toNat % 32 := by
  have zero : v.extractLsb' 0 5 = 0#5 ↔ v.toNat % 32 = 0 := by
    rw [← BitVec.toNat_inj, low5_toNat]
    rfl
  by_cases h : v.toNat % 32 = 0
  · rw [if_pos (zero.mpr h), if_pos h]
    rfl
  · rw [if_neg (mt zero.mp h), if_neg h, low5_toNat]

theorem selectRomLow_eq (v : Byte) (s : State) : selectRomLow v s = { s with
    romBank := BitVec.ofNat 7 (s.romBank.toNat / 32 * 32 + (if v.toNat % 32 = 0 then 1 else v.toNat % 32)) } := by
  rw [← bankLow_toNat, ← high2_toNat]
  exact congrArg (fun bank => { s with romBank := bank }) (romBank_packed _ _)

theorem selectHigh_romBank {v : Byte} {s : State} (h : s.bankingMode = 0#1) : selectHigh v s =
    { s with romBank := BitVec.ofNat 7 (v.toNat % 4 * 32 + s.romBank.toNat % 32) } := by
  rw [selectHigh, if_pos h, romBank_packed, low2_toNat, low5_toNat]

theorem selectHigh_ramBank {v : Byte} {s : State} (h : s.bankingMode = 1#1) : selectHigh v s =
    { s with ramBank := BitVec.ofNat 2 v.toNat } := by
  rw [selectHigh, if_neg (by rw [h]; decide), field_eq_ofNat, Nat.pow_zero, Nat.div_one]

/-! ## The ranges -/

theorem cartWrite_unbanked {s : State} (h : s.cartBanked = false) (addr : Word) (v : Byte) : cartWrite addr v s = s := by
  simp [cartWrite, h]

section Banked

variable {s : State} (hc : s.cartBanked = true) {addr : Word} (v : Byte)
include hc

theorem cartWrite_ramEnabled (h : addr.toNat < 0x2000) :
    cartWrite addr v s = { s with ramEnabled := decide (v.toNat % 16 = 10) } := by
  simp only [cartWrite, if_pos hc, if_pos h, lowNibble_eq_ten]

theorem cartWrite_romLow (h : 0x2000 ≤ addr.toNat) (h' : addr.toNat < 0x4000) :
    cartWrite addr v s = selectRomLow v s := by
  simp (disch := omega) only [cartWrite, if_pos hc, if_pos, if_neg]

theorem cartWrite_high (h : 0x4000 ≤ addr.toNat) (h' : addr.toNat < 0x6000) : cartWrite addr v s = selectHigh v s := by
  simp (disch := omega) only [cartWrite, if_pos hc, if_pos, if_neg]

theorem cartWrite_bankingMode (h : 0x6000 ≤ addr.toNat) :
    cartWrite addr v s = { s with bankingMode := BitVec.ofNat 1 v.toNat } := by
  simp (disch := omega) only [cartWrite, if_pos hc, if_neg, field_eq_ofNat, Nat.pow_zero, Nat.div_one]

end Banked

/-- Settles O52: the control write of each range, its fields compared as numbers. -/
theorem bankControl : Obligations.BankControl := fun s addr v =>
  ⟨fun hc h => (memWrite_cart s v h).trans (cartWrite_unbanked hc addr v), fun hc =>
    ⟨fun h => (memWrite_cart s v (by omega)).trans (cartWrite_ramEnabled hc v h),
      fun h h' => (memWrite_cart s v (by omega)).trans ((cartWrite_romLow hc v h h').trans (selectRomLow_eq v s)),
      fun h h' hm => (memWrite_cart s v (by omega)).trans ((cartWrite_high hc v h h').trans (selectHigh_romBank hm)),
      fun h h' hm => (memWrite_cart s v (by omega)).trans ((cartWrite_high hc v h h').trans (selectHigh_ramBank hm)),
      fun h h' => (memWrite_cart s v h').trans (cartWrite_bankingMode hc v h)⟩⟩

end Sys2Proof.Machine
end

section
/-! PROOFS. The addresses without a device (20_memory.md R87, R91, R100, R104). -/

namespace Sys2Proof.Machine

theorem memWrite_discarded {s : State} {addr : Word} {target : BusTarget} (h : busTarget s addr = target)
    (ht : target = .unusable ∨ target = .ioUnmapped ∨ target = .eramDisabled) (v : Byte) : memWrite s addr v = s := by
  rcases ht with rfl | rfl | rfl <;> rw [memWrite, h]

theorem busTarget_ioUnmapped {s : State} {addr : Word} (h : 0xFF00 ≤ addr.toNat) (h' : addr.toNat < 0xFF80)
    (noReg : ∀ r, addr.toNat ≠ (ioAddr r).toNat) : busTarget s addr = .ioUnmapped := by
  rw [busTarget_ioPage h h']
  cases hr : ioReg? addr.toNat with
  | none => rfl
  | some r => exact absurd (congrArg BitVec.toNat (ioReg?_eq_some.mp hr)) (noReg r)

theorem eramTarget_disabled {s : State} (hc : s.cartBanked = true) (he : s.ramEnabled = false) (n : Nat) :
    eramTarget s n = .eramDisabled := by
  simp [eramTarget, hc, he]

/-- Settles O51: each address reaches one of the three targets that a write leaves alone. -/
theorem unmappedAddresses : Obligations.UnmappedAddresses := by
  intro s addr v
  refine ⟨fun h h' => ?unusable, fun h => ?io, fun h h' hc he => ?eram⟩
  case unusable =>
    have ht := busTarget_unusable (s := s) h h'
    exact ⟨memRead_of_busTarget ht, memWrite_discarded ht (.inl rfl) v⟩
  case io =>
    simp only [List.mem_cons, List.not_mem_nil, or_false] at h
    have noReg : ∀ r, addr.toNat ≠ (ioAddr r).toNat := by
      intro r
      cases r <;> simp only [ioAddr, BitVec.toNat_ofNat] <;> omega
    have ht := busTarget_ioUnmapped (s := s) (by omega) (by omega) noReg
    exact ⟨memRead_of_busTarget ht, memWrite_discarded ht (.inr (.inl rfl)) v⟩
  case eram =>
    have ht := (busTarget_eramWindow h h').trans (eramTarget_disabled hc he addr.toNat)
    exact ⟨memRead_of_busTarget ht, memWrite_discarded ht (.inr (.inr rfl)) v⟩

end Sys2Proof.Machine
end

section
/-! PROOFS. What an instruction that stores nothing changes (20_memory.md R105, R108). -/

namespace Sys2Proof.Machine

open Sys2Proof.Rows

/-- The machine with the registers, the control state and the cycle count of another. -/
def State.withCpuOf (s t : State) : State :=
  { s with a := t.a, f := t.f, b := t.b, c := t.c, d := t.d, e := t.e, h := t.h, l := t.l, sp := t.sp
           pc := t.pc, cpuMode := t.cpuMode, ime := t.ime, eiPending := t.eiPending, cycles := t.cycles }

/-- `t` differs from `s` in the registers, the control state and the cycle count alone. -/
def CpuAlone (s t : State) : Prop := t = s.withCpuOf t

theorem CpuAlone.refl (s : State) : CpuAlone s s := rfl

theorem CpuAlone.trans {s t u : State} (h : CpuAlone s t) (h' : CpuAlone t u) : CpuAlone s u :=
  calc u
    _ = t.withCpuOf u := h'
    _ = (s.withCpuOf t).withCpuOf u := congrArg (fun x : State => x.withCpuOf u) h
    _ = s.withCpuOf u := rfl

/-- No bus read depends on the CPU. -/
theorem CpuAlone.memRead_eq {s t : State} (h : CpuAlone s t) (addr : Word) : memRead t addr = memRead s addr := by
  rw [h]
  rfl

theorem cpuAlone_instrKeeps {i : Instr} (hi : mayStore i = false) (s0 : State) : InstrKeeps i (CpuAlone s0) where
  reg _ r _ h := h.trans (by cases r <;> rfl)
  pair _ r _ h := h.trans (by cases r <;> rfl)
  pc _ _ h := h.trans rfl
  cycles _ _ h := h.trans rfl
  flags _ _ _ h := h.trans rfl
  popAf _ _ _ h := h.trans rfl
  write hw := absurd hw (by simp [hi])
  halt _ _ h := h.trans rfl
  stop _ _ h := h.trans rfl
  ime _ _ _ h := h.trans rfl
  ei _ _ h := h.trans rfl
  undef _ _ _ h := h.trans rfl

/-- Settles O16: of the operations that such an instruction is made of, each changes the CPU alone. -/
theorem nonStoringInstructionsLeaveMemory : Obligations.NonStoringInstructionsLeaveMemory := by
  intro i s t hi ht
  have same : CpuAlone s t := (cpuAlone_instrKeeps hi s).exec_next (.refl s) ht
  exact ⟨same.memRead_eq, same⟩

end Sys2Proof.Machine
end

section
/-! PROOFS. What no bus write changes (20_memory.md R81, R108, R111). -/

namespace Sys2Proof.Machine

open Sys2Proof.Rows

/-- The machine with every field that some bus write reaches taken from another. -/
def State.withBusOf (s t : State) : State :=
  { s with vram := t.vram, eram := t.eram, wram := t.wram, oam := t.oam, hram := t.hram
           romBank := t.romBank, ramBank := t.ramBank, ramEnabled := t.ramEnabled, bankingMode := t.bankingMode
           bootMapped := t.bootMapped, dmaLast := t.dmaLast, ifReg := t.ifReg, ieReg := t.ieReg
           div := t.div, divAcc := t.divAcc, tima := t.tima, tma := t.tma, tac := t.tac
           lcdc := t.lcdc, statEn := t.statEn, coincidence := t.coincidence, lyc := t.lyc
           scy := t.scy, scx := t.scx, bgp := t.bgp, obp0 := t.obp0, obp1 := t.obp1
           wy := t.wy, wx := t.wx, sel := t.sel }

theorem cartWrite_withBusOf (addr : Word) (v : Byte) (s : State) : cartWrite addr v s = s.withBusOf (cartWrite addr v s) := by
  unfold cartWrite selectHigh
  (repeat' split) <;> rfl

theorem writeIo_withBusOf (r : IoReg) (v : Byte) (s : State) : writeIo r v s = s.withBusOf (writeIo r v s) := by
  apply writeIo_cases (P := fun t => t = s.withBusOf t)
  case lyc =>
    rw [coincidenceUpdate_eq]
    rfl
  case dma =>
    obtain ⟨m, hm⟩ : ∃ m, oamDma v { s with dmaLast := v } = { s with dmaLast := v, oam := m } := ⟨_, oamDma_eq v _⟩
    rw [hm]
    rfl
  all_goals rfl

theorem memWrite_withBusOf (s : State) (addr : Word) (v : Byte) : memWrite s addr v = s.withBusOf (memWrite s addr v) := by
  apply memWrite_cases (P := fun t => t = s.withBusOf t)
  case cart => exact cartWrite_withBusOf addr v s
  case io => exact fun r _ => writeIo_withBusOf r v s
  all_goals intros; rfl

/-- Of the device registers, OAM-DMA's alone reaches OAM by its write. -/
theorem writeIo_oam {r : IoReg} (h : r ≠ .dma) (v : Byte) (s : State) : (writeIo r v s).oam = s.oam := by
  cases r
  case dma => exact absurd rfl h
  case lyc => exact coincidenceUpdate_oam _
  case boot =>
    simp only [writeIo]
    split <;> rfl
  all_goals rfl

theorem memWrite_storageArrays {s : State} {addr : Word} (v : Byte) (h : isRam (busTarget s addr) = false)
    (dma : addr ≠ 0xFF46#16) :
    (memWrite s addr v).vram = s.vram ∧ (memWrite s addr v).eram = s.eram ∧ (memWrite s addr v).wram = s.wram ∧
      (memWrite s addr v).oam = s.oam ∧ (memWrite s addr v).hram = s.hram := by
  have notRam : ∀ {target}, busTarget s addr = target → isRam target = false := fun ht => ht ▸ h
  apply memWrite_cases (P := fun t => t.vram = s.vram ∧ t.eram = s.eram ∧ t.wram = s.wram ∧ t.oam = s.oam ∧ t.hram = s.hram)
  case vram | eram | wram | oam | hram => exact fun i hi => nomatch notRam hi
  case io =>
    intro r hr
    have notDma : r ≠ .dma := by
      rintro rfl
      exact dma (busTarget_eq_io.mp hr)
    exact ⟨writeIo_vram r v s, writeIo_eram r v s, writeIo_wram r v s, writeIo_oam notDma v s, writeIo_hram r v s⟩
  case cart => simp
  all_goals exact ⟨rfl, rfl, rfl, rfl, rfl⟩

/-- Settles O49: every case of a bus write keeps the rest of the machine, and only the plain targets and the copy reach an array. -/
theorem busWriteFrame : Obligations.BusWriteFrame :=
  fun s addr v => ⟨memWrite_withBusOf s addr v, memWrite_storageArrays v⟩

end Sys2Proof.Machine
end

section
/-! PROOFS. A byte written to plain memory: what every read gives after it (20_memory.md R82, R86 to R90, R101, R115). -/

namespace Sys2Proof.Machine

open Sys2Proof.Rows

/-- A write to plain memory changes what no address reaches. -/
theorem busTarget_memWrite_ram {s : State} {addr : Word} (h : isRam (busTarget s addr) = true) (v : Byte) (other : Word) :
    busTarget (memWrite s addr v) other = busTarget s other := by
  unfold memWrite
  generalize busTarget s addr = target at h
  cases target
  case vram | eram | wram | oam | hram => rfl
  all_goals cases h

/-- What each target gives after a write to plain memory. -/
theorem readTarget_memWrite_ram {s : State} {addr : Word} (hs : StorageLegal s) (h : isRam (busTarget s addr) = true) (v : Byte)
    (other : BusTarget) :
    readTarget (memWrite s addr v) other = if other = busTarget s addr then v else readTarget s other := by
  unfold memWrite
  generalize busTarget s addr = target at h
  cases target
  case vram | eram | wram | oam | hram =>
    cases other <;> simp [readTarget, readBoot, readIo, joypRows, Memory.read_write, hs.vramWf, hs.eramWf, hs.wramWf,
      hs.oamWf, hs.hramWf]
  all_goals cases h

/-- A byte written to plain memory is read at every address that reaches it, and no other read changes. -/
theorem memRead_memWrite_ram {s : State} {addr : Word} (hs : StorageLegal s) (h : isRam (busTarget s addr) = true) (v : Byte)
    (other : Word) :
    memRead (memWrite s addr v) other = if busTarget s other = busTarget s addr then v else memRead s other := by
  rw [memRead, busTarget_memWrite_ram h, readTarget_memWrite_ram hs h]
  rfl

/-- Work RAM and its echo (R88, R89). -/
theorem busTarget_wram_echo (s : State) {k : Nat} (hk : k < 0x1E00) :
    busTarget s (BitVec.ofNat 16 (0xC000 + k)) = .wram k ∧ busTarget s (BitVec.ofNat 16 (0xE000 + k)) = .wram k := by
  have low : (BitVec.ofNat 16 (0xC000 + k)).toNat = 0xC000 + k := Nat.mod_eq_of_lt (by omega)
  have high : (BitVec.ofNat 16 (0xE000 + k)).toNat = 0xE000 + k := Nat.mod_eq_of_lt (by omega)
  rw [busTarget_wram (by omega) (by omega), busTarget_echo (by omega) (by omega), low, high, Nat.add_sub_cancel_left,
    Nat.add_sub_cancel_left]
  exact ⟨rfl, rfl⟩

/-- Settles O47: every read after the write, by what its address reaches, and the echo by the decode. -/
theorem ramReadAfterWrite : Obligations.RamReadAfterWrite := by
  refine ⟨fun s addr v hs h => ⟨?_, fun other ho => ?_, fun other ho => ?_⟩, fun s k hk => ?_⟩
  · rw [memRead_memWrite_ram hs h, if_pos rfl]
  · rw [memRead_memWrite_ram hs h, if_pos ho]
  · rw [memRead_memWrite_ram hs h, if_neg ho]
  · obtain ⟨low, high⟩ := busTarget_wram_echo s hk
    rw [low, high]
    exact ⟨rfl, rfl⟩

end Sys2Proof.Machine
end

section
/-! PROOFS. The frame of the storing instructions (20_memory.md R82, R115, 40_loads.md R221, R226). -/

namespace Sys2Proof.Machine

open Sys2Proof.Rows

/-- One bus write at an address, and nothing beside it but the CPU's. -/
def StoresByte (s : State) (addr : Word) (r : Result) : Prop := ∃ v t, r = .next t ∧ CpuAlone (memWrite s addr v) t

section Bytes

variable (s : State)

theorem storeHlReg_storesByte (src : Reg8) : StoresByte s s.hl (storeHlReg src s) := ⟨_, _, rfl, rfl⟩
theorem storeHlImm_storesByte (n : Byte) : StoresByte s s.hl (storeHlImm n s) := ⟨_, _, rfl, rfl⟩
theorem storeA_storesByte (len cyc : Nat) (addr : Word) : StoresByte s addr (storeA len cyc addr s) := ⟨_, _, rfl, rfl⟩
theorem storeAThenHl_storesByte (hl' : Word) : StoresByte s s.hl (storeAThenHl hl' s) := ⟨_, _, rfl, rfl⟩
theorem rotHl_storesByte (op : RotOp) : StoresByte s s.hl (rotLoc op .indHl s) := ⟨_, _, rfl, rfl⟩
theorem resHl_storesByte (bit : Nat) : StoresByte s s.hl (resBit bit .indHl s) := ⟨_, _, rfl, rfl⟩
theorem setHl_storesByte (bit : Nat) : StoresByte s s.hl (setBit bit .indHl s) := ⟨_, _, rfl, rfl⟩
theorem incHl_storesByte : StoresByte s s.hl (incHl s) := ⟨_, _, rfl, rfl⟩
theorem decHl_storesByte : StoresByte s s.hl (decHl s) := ⟨_, _, rfl, rfl⟩

/-- Each form that stores one byte stores it at its address. -/
theorem byteStores_storesByte (n : Byte) (nn : Word) : ∀ row ∈ byteStores n nn, StoresByte s (row.2 s) (exec row.1 s) := by
  simp only [byteStores, List.forall_mem_append, List.forall_mem_cons]
  exact ⟨⟨storeHlReg_storesByte s .b, storeHlReg_storesByte s .c, storeHlReg_storesByte s .d, storeHlReg_storesByte s .e,
    storeHlReg_storesByte s .h, storeHlReg_storesByte s .l, storeHlReg_storesByte s .a, storeHlImm_storesByte s n,
    storeA_storesByte s 1 8 s.bc, storeA_storesByte s 1 8 s.de, storeA_storesByte s 3 16 nn,
    storeA_storesByte s 2 12 (zeroPage n), storeA_storesByte s 1 8 (zeroPage s.c), storeAThenHl_storesByte s _,
    storeAThenHl_storesByte s _, incHl_storesByte s, decHl_storesByte s, rotHl_storesByte s .rlc, rotHl_storesByte s .rrc,
    rotHl_storesByte s .rl, rotHl_storesByte s .rr, rotHl_storesByte s .sla, rotHl_storesByte s .sra,
    rotHl_storesByte s .swap, rotHl_storesByte s .srl, resHl_storesByte s 0, resHl_storesByte s 1, resHl_storesByte s 2,
    resHl_storesByte s 3, resHl_storesByte s 4, resHl_storesByte s 5, resHl_storesByte s 6, nofun⟩,
    resHl_storesByte s 7, setHl_storesByte s 0, setHl_storesByte s 1, setHl_storesByte s 2, setHl_storesByte s 3,
    setHl_storesByte s 4, setHl_storesByte s 5, setHl_storesByte s 6, setHl_storesByte s 7, nofun⟩

end Bytes

theorem ld_indNn_sp_stores (nn : Word) (s : State) : ∃ t, exec (.ld_indNn_sp nn) s = .next t ∧
    CpuAlone (memWrite (memWrite s nn (lo s.sp)) (nn + 1) (hi s.sp)) t := ⟨_, rfl, rfl⟩

/-- An instruction stores nothing or pushes a word, and what it does beside it is the CPU's. -/
def MayPush (s : State) (r : Result) : Prop := ∃ t, r = .next t ∧ (CpuAlone s t ∨ ∃ w, CpuAlone (push16 w s) t)

theorem callAbs_mayPush (taken : Bool) (nn : Word) (c1 c2 : Nat) (s : State) : MayPush s (callAbs taken nn c1 c2 s) := by
  cases taken
  · exact ⟨_, rfl, .inl rfl⟩
  · exact ⟨_, rfl, .inr ⟨_, rfl⟩⟩

theorem restart_mayPush (t : Word) (s : State) : MayPush s (restart t s) := ⟨_, rfl, .inr ⟨_, rfl⟩⟩

theorem pushPair_mayPush (q : StackPair) (s : State) : MayPush s (pushPair q s) := ⟨_, rfl, .inr ⟨_, rfl⟩⟩

/-- The forms of `wordStores` that use the stack: all but LD (nn),SP. -/
def pushForms (nn : Word) : List Instr :=
  [.push_bc, .push_de, .push_hl, .push_af, .call_nn nn, .rst_00, .rst_08, .rst_10, .rst_18, .rst_20, .rst_28, .rst_30,
   .rst_38, .call_nz_nn nn, .call_z_nn nn, .call_nc_nn nn, .call_c_nn nn]

theorem wordStores_eq (nn : Word) :
    wordStores nn = (.ld_indNn_sp nn, fun _ => nn) :: (pushForms nn).map fun i => (i, fun s => s.sp - 2) := rfl

theorem pushForms_mayPush (nn : Word) (s : State) : ∀ i ∈ pushForms nn, MayPush s (exec i s) := by
  simp only [pushForms, List.forall_mem_cons]
  exact ⟨pushPair_mayPush .bc s, pushPair_mayPush .de s, pushPair_mayPush .hl s, pushPair_mayPush .af s,
    callAbs_mayPush true nn 24 12 s, restart_mayPush _ s, restart_mayPush _ s, restart_mayPush _ s, restart_mayPush _ s,
    restart_mayPush _ s, restart_mayPush _ s, restart_mayPush _ s, restart_mayPush _ s, callAbs_mayPush _ nn 24 12 s,
    callAbs_mayPush _ nn 24 12 s, callAbs_mayPush _ nn 24 12 s, callAbs_mayPush _ nn 24 12 s, nofun⟩

/-- Two bytes written to plain memory leave every read but those of the addresses that reach them. -/
theorem memRead_memWrite_twice {s : State} (hs : StorageLegal s) {a b other : Word} (ha : isRam (busTarget s a) = true)
    (hb : isRam (busTarget s b) = true) (x y : Byte) (oa : busTarget s other ≠ busTarget s a)
    (ob : busTarget s other ≠ busTarget s b) : memRead (memWrite (memWrite s a x) b y) other = memRead s other := by
  have hb' : isRam (busTarget (memWrite s a x) b) = true := (busTarget_memWrite_ram ha x b).symm ▸ hb
  rw [memRead_memWrite_ram (memWrite_storage a x hs) hb', busTarget_memWrite_ram ha, busTarget_memWrite_ram ha, if_neg ob,
    memRead_memWrite_ram hs ha, if_neg oa]

/-- A push to plain memory leaves every read but those of the addresses that reach its two bytes. -/
theorem memRead_push16 {s : State} (hs : StorageLegal s) {other : Word} (low : isRam (busTarget s (s.sp - 2)) = true)
    (high : isRam (busTarget s (s.sp - 2 + 1)) = true) (w : Word) (ol : busTarget s other ≠ busTarget s (s.sp - 2))
    (oh : busTarget s other ≠ busTarget s (s.sp - 2 + 1)) : memRead (push16 w s) other = memRead s other := by
  have next : s.sp - 2 + 1 = s.sp - 1 := by
    rw [← sub_one_one, BitVec.sub_add_cancel]
  rw [next] at high oh
  have pushed_cpuAlone : CpuAlone (memWrite (memWrite s (s.sp - 1) (hi w)) (s.sp - 2) (lo w)) (push16 w s) := by
    rw [push16_eq_pushed]
    rfl
  rw [pushed_cpuAlone.memRead_eq, memRead_memWrite_twice hs high low _ _ oh ol]

/-- Settles O48: each form by what it stores, then the frame of one write or of two. -/
theorem storesLeaveOtherBytes : Obligations.StoresLeaveOtherBytes := by
  refine ⟨fun n nn row hrow s t addr hs ha ht hram other ho => ?bytes,
    fun nn row hrow s t addr hs ha ht low high other ol oh => ?words⟩
  case bytes =>
    obtain ⟨v, t', ht', stored⟩ := byteStores_storesByte s n nn row hrow
    cases ht.symm.trans ht'
    subst ha
    rw [stored.memRead_eq, memRead_memWrite_ram hs hram, if_neg ho]
  case words =>
    subst ha
    rw [wordStores_eq, List.mem_cons, List.mem_map] at hrow
    obtain rfl | ⟨i, hi, rfl⟩ := hrow
    · obtain ⟨t', ht', stored⟩ := ld_indNn_sp_stores nn s
      cases ht.symm.trans ht'
      rw [stored.memRead_eq, memRead_memWrite_twice hs low high _ _ ol oh]
    · obtain ⟨t', ht', stored⟩ := pushForms_mayPush nn s i hi
      cases ht.symm.trans ht'
      rcases stored with stored | ⟨w, stored⟩ <;> rw [stored.memRead_eq]
      exact memRead_push16 hs low high w ol oh

end Sys2Proof.Machine
end

section
/-! PROOFS. The decoder and the encoder are inverse (30_encoding.md R140, R148 to R151). -/

namespace Sys2Proof.Machine

/-! ## Decoding what was encoded -/

/-- As many bytes as the first one says are decoded, and the bytes after them are left (R140, R151). -/
theorem decode_append {first : Byte} {operands : List Byte} (len : operands.length + 1 = lengthOfOpcode first)
    (tail : List Byte) : decode (first :: operands ++ tail) =
      .ok (decodeBytes first ((operands ++ tail).getD 0 0x00#8) ((operands ++ tail).getD 1 0x00#8), tail) := by
  have enough : ¬(operands ++ tail).length + 1 < lengthOfOpcode first := by
    rw [List.length_append]
    omega
  have left : (operands ++ tail).drop (lengthOfOpcode first - 1) = tail := by
    rw [← len, Nat.add_sub_cancel, List.drop_left]
  simp only [List.cons_append, decode, if_neg enough, left]

/-- The maps give `i` for a first byte and its operand bytes, whatever stands in the places that these leave open. -/
def MapsGive (first : Byte) (operands : List Byte) (i : Instr) : Prop :=
  ∀ b1 b2, match operands with
    | [] => decodeBytes first b1 b2 = i
    | [n] => decodeBytes first n b2 = i
    | l :: h :: _ => decodeBytes first l h = i

theorem MapsGive.decodeBytes_eq {first : Byte} {operands : List Byte} {i : Instr} (row : MapsGive first operands i)
    (tail : List Byte) :
    decodeBytes first ((operands ++ tail).getD 0 0x00#8) ((operands ++ tail).getD 1 0x00#8) = i := by
  have row := row ((operands ++ tail).getD 0 0x00#8) ((operands ++ tail).getD 1 0x00#8)
  match operands with
  | [] | [_] | _ :: _ :: _ => exact row

theorem decode_encode_append {i : Instr} {first : Byte} {operands tail : List Byte}
    (bytes : encode i = first :: operands) (len : operands.length + 1 = lengthOfOpcode first)
    (row : MapsGive first operands i) : decode (encode i ++ tail) = .ok (i, tail) := by
  rw [bytes, decode_append len, row.decodeBytes_eq]

/-- A 16-bit immediate is put together again from its two bytes, the low one first (R146). -/
theorem mapsGive_word {f : Word → Instr} {first : Byte} (row : ∀ l h, decodeBytes first l h = f (word h l)) (nn : Word) :
    MapsGive first [lo nn, hi nn] (f nn) :=
  fun _ _ => (row (lo nn) (hi nn)).trans (congrArg f (word_hi_lo nn))

theorem decode_encode_append_undefined {b : Byte} (h : isUndefinedByte b = true) (tail : List Byte) :
    decode (encode (.undefined b) ++ tail) = .ok (.undefined b, tail) := by
  obtain ⟨first, operands, bytes, len⟩ := Laws.Enc.undefined b h
  obtain ⟨rfl, rfl⟩ := List.cons.inj bytes
  exact decode_encode_append bytes len fun _ _ => decodeBytes_eq_undefined.mpr ⟨h, rfl⟩

/-- Settles O1, constructor by constructor: a 16-bit immediate is put together again, an undefined byte is the opcode it is, and
every other row of the maps answers by its own equation. -/
theorem decodeOfEncodeIsTheInstruction : Obligations.DecodeOfEncodeIsTheInstruction := by
  intro i tail h
  cases i
  case undefined b => exact decode_encode_append_undefined h tail
  case prefix_cb => cases h
  case ld_bc_nn nn | ld_de_nn nn | ld_hl_nn nn | ld_sp_nn nn | ld_indNn_sp nn | ld_indNn_a nn | ld_a_indNn nn | jp_nn nn
      | jp_nz_nn nn | jp_z_nn nn | jp_nc_nn nn | jp_c_nn nn | call_nn nn | call_nz_nn nn | call_z_nn nn | call_nc_nn nn
      | call_c_nn nn =>
    exact decode_encode_append rfl rfl (mapsGive_word (fun _ _ => rfl) nn)
  all_goals exact decode_encode_append rfl rfl fun _ _ => rfl

/-- Settles O3: each word is the encoding of its instruction. -/
theorem sampleWordsDecode : Obligations.SampleWordsDecode := by
  intro row hrow
  have encoded : ∀ row ∈ Rows.sampleWords, row.2.wf = true ∧ encode row.2 = row.1 := by decide
  obtain ⟨wf, bytes⟩ := encoded row hrow
  rw [← bytes, ← List.append_nil (encode row.2)]
  exact decodeOfEncodeIsTheInstruction row.2 [] wf

/-! ## Encoding what was decoded -/

theorem decodeCb_wf (b : Byte) : (decodeCb b).wf = true := by
  revert b
  exact byte_forall (by decide)

theorem encode_decodeCb (b : Byte) : encode (decodeCb b) = [0xCB#8, b] := by
  revert b
  exact byte_forall (by decide)

/-- The maps hold no ill-formed instruction, whatever the operands. -/
theorem decodeBytes_wf (b0 b1 b2 : Byte) : (decodeBytes b0 b1 b2).wf = true := by
  have other : b0 ≠ 0xCB#8 → (decodeBytes b0 b1 b2).wf = true := by
    revert b0
    exact byte_forall (of_decide_eq_true rfl)
  by_cases h : b0 = 0xCB#8
  · subst h
    exact decodeCb_wf b1
  · exact other h

theorem encode_decodeBytes_length3 (l h : Byte) : ∀ k ∈ opcodesOfLength3,
    encode (decodeBytes (BitVec.ofNat 8 k) l h) = [BitVec.ofNat 8 k, l, h] := by
  have rows : ∀ k ∈ opcodesOfLength3, encode (decodeBytes (BitVec.ofNat 8 k) l h) =
      [BitVec.ofNat 8 k, lo (word h l), hi (word h l)] := List.map_inj_left.mp rfl
  rwa [lo_word, hi_word] at rows

theorem encode_decodeBytes_length2 (n b2 : Byte) : ∀ k ∈ opcodesOfLength2,
    encode (decodeBytes (BitVec.ofNat 8 k) n b2) = [BitVec.ofNat 8 k, n] := by
  intro k hk
  have other : ∀ k ∈ opcodesOfLength2.erase 0xCB,
      encode (decodeBytes (BitVec.ofNat 8 k) n b2) = [BitVec.ofNat 8 k, n] := List.map_inj_left.mp rfl
  by_cases h : k = 0xCB
  · subst h
    exact encode_decodeCb n
  · exact other k ((List.mem_erase_of_ne h).mpr hk)

theorem encode_decodeBytes_length1 (b1 b2 : Byte) :
    ∀ b0, lengthOfOpcode b0 = 1 → encode (decodeBytes b0 b1 b2) = [b0] :=
  byte_forall (of_decide_eq_true rfl)

/-- The branches of `lengthOfOpcode`. -/
theorem lengthOfOpcode_cases (b0 : Byte) :
    (b0.toNat ∈ opcodesOfLength3 ∧ lengthOfOpcode b0 = 3) ∨ (b0.toNat ∈ opcodesOfLength2 ∧ lengthOfOpcode b0 = 2) ∨
      lengthOfOpcode b0 = 1 := by
  unfold lengthOfOpcode
  split
  · exact .inl ⟨List.contains_iff_mem.mp ‹_›, rfl⟩
  · split
    · exact .inr (.inl ⟨List.contains_iff_mem.mp ‹_›, rfl⟩)
    · exact .inr (.inr rfl)

theorem encode_decodeBytes (b0 b1 b2 : Byte) :
    encode (decodeBytes b0 b1 b2) = [b0, b1, b2].take (lengthOfOpcode b0) := by
  obtain ⟨mem, len⟩ | ⟨mem, len⟩ | len := lengthOfOpcode_cases b0 <;> rw [len]
  · simpa using encode_decodeBytes_length3 b1 b2 _ mem
  · simpa using encode_decodeBytes_length2 b1 b2 _ mem
  · exact encode_decodeBytes_length1 b1 b2 b0 len

/-- Settles O2: the opcodes of each length apart, and the CB map byte by byte. -/
theorem encodeOfDecodeIsTheBytes : Obligations.EncodeOfDecodeIsTheBytes :=
  fun b0 b1 b2 => ⟨decodeBytes_wf b0 b1 b2, encode_decodeBytes b0 b1 b2⟩

/-- Settles O4: the eleven bytes are `undefinedBytes`. -/
theorem elevenBytesAreUndefined : Obligations.ElevenBytesAreUndefined := fun b0 b1 b2 b =>
  calc decodeBytes b0 b1 b2 = .undefined b
    _ ↔ isUndefinedByte b0 = true ∧ b = b0 := decodeBytes_eq_undefined
    _ ↔ b = b0 ∧ b0 ∈ undefinedBytes := by rw [isUndefinedByte, List.contains_iff_mem, and_comm]

end Sys2Proof.Machine
end

section
/-! PROOFS. The loads and the stores (40_loads.md R200 to R221). -/

namespace Sys2Proof.Machine

open Sys2Proof.Rows

/-! ## Instructions that write a register or a byte of memory, as whole states -/

theorem retireAdvance_eq {s t : State} (hpc : t.pc = s.pc) (hcycles : t.cycles = s.cycles) (len cyc : Nat) :
    retire cyc (advance len t) = .next { t with pc := s.pc + BitVec.ofNat 16 len, cycles := s.cycles + cyc } := by
  rw [← hpc, ← hcycles]
  rfl

theorem retireSetReg_eq (s : State) (r : Reg8) (v : Byte) (len cyc : Nat) :
    retire cyc (advance len (s.setReg r v)) =
      .next { s.setReg r v with pc := s.pc + BitVec.ofNat 16 len, cycles := s.cycles + cyc } :=
  retireAdvance_eq (setReg_pc s r v) (setReg_cycles s r v) len cyc

theorem retireMemWrite_eq (s : State) (addr : Word) (v : Byte) (len cyc : Nat) :
    retire cyc (advance len (memWrite s addr v)) =
      .next { memWrite s addr v with pc := s.pc + BitVec.ofNat 16 len, cycles := s.cycles + cyc } :=
  retireAdvance_eq (memWrite_pc s addr v) (memWrite_cycles s addr v) len cyc

/-! ## Loads of a register from a register or an immediate -/

theorem encode_regFromReg :
    ∀ row ∈ regFromReg, encode row.1 = [byte (0x40 + 8 * regCode row.2.1 + regCode row.2.2)] := by decide

theorem exec_regFromReg : ∀ row ∈ regFromReg, exec row.1 = loadRegReg row.2.1 row.2.2 := List.map_inj_left.mp rfl

theorem encode_regFromImm (n : Byte) : ∀ row ∈ regFromImm n, encode row.1 = [byte (0x06 + 8 * regCode row.2), n] :=
  List.map_inj_left.mp rfl

theorem exec_regFromImm (n : Byte) : ∀ row ∈ regFromImm n, exec row.1 = loadRegImm row.2 n := List.map_inj_left.mp rfl

/-- Settles O17: each form is its operation, which writes one register. -/
theorem registerLoads : Obligations.RegisterLoads := by
  refine ⟨fun row hrow s => ⟨encode_regFromReg row hrow, ?_⟩, fun n row hrow s => ⟨encode_regFromImm n row hrow, ?_⟩⟩
  · rw [exec_regFromReg row hrow]
    exact retireSetReg_eq s row.2.1 (s.reg row.2.2) 1 4
  · rw [exec_regFromImm n row hrow]
    exact retireSetReg_eq s row.2 n 2 8

/-! ## Loads and stores of one byte of memory -/

/-- What the loads of R201, R205, R206, R209, R211 and R213 have in common: `loadRegHl` and `loadA` with the address as the form
computes it. -/
def loadByte (dst : Reg8) (addr : State → Word) (len cyc : Nat) (s : State) : Result :=
  retire cyc (advance len (s.setReg dst (memRead s (addr s))))

/-- What the stores of R202, R204, R207, R208, R210, R212 and R214 have in common: `storeHlReg`, `storeHlImm` and `storeA`. -/
def storeByte (addr : State → Word) (v : State → Byte) (len cyc : Nat) (s : State) : Result :=
  retire cyc (advance len (memWrite s (addr s) (v s)))

theorem encode_regFromMem (n : Byte) (nn : Word) : ∀ row ∈ regFromMem n nn, encode row.1 = row.2.1 :=
  List.map_inj_left.mp rfl

theorem exec_regFromMem (n : Byte) (nn : Word) :
    ∀ row ∈ regFromMem n nn, exec row.1 = loadByte row.2.2.1 row.2.2.2.1 row.2.1.length row.2.2.2.2 :=
  List.map_inj_left.mp rfl

theorem encode_memFromReg (n : Byte) (nn : Word) : ∀ row ∈ memFromReg n nn, encode row.1 = row.2.1 :=
  List.map_inj_left.mp rfl

theorem exec_memFromReg (n : Byte) (nn : Word) :
    ∀ row ∈ memFromReg n nn, exec row.1 = storeByte row.2.2.1 row.2.2.2.1 row.2.1.length row.2.2.2.2 :=
  List.map_inj_left.mp rfl

/-- Settles O18: each form is `loadByte` at its own address, which the state before the write gives. -/
theorem memoryLoads : Obligations.MemoryLoads := by
  intro n nn row hrow s
  refine ⟨encode_regFromMem n nn row hrow, ?_⟩
  rw [exec_regFromMem n nn row hrow]
  exact retireSetReg_eq s row.2.2.1 (memRead s (row.2.2.2.1 s)) row.2.1.length row.2.2.2.2

/-- Settles O19: each form is `storeByte` of its own byte at its own address. -/
theorem memoryStores : Obligations.MemoryStores := by
  intro n nn row hrow s
  refine ⟨encode_memFromReg n nn row hrow, ?_⟩
  rw [exec_memFromReg n nn row hrow]
  exact retireMemWrite_eq s (row.2.2.1 s) (row.2.2.2.1 s) row.2.1.length row.2.2.2.2

/-! ## The forms that move HL -/

theorem hl_setHl (s : State) (w : Word) : (s.setHl w).hl = w := word_hi_lo w

theorem loadAThenHl_next (s : State) {w : Word} {k : Nat} (hk : w.toNat = k) :
    ∃ t, loadAThenHl w s = .next t ∧ t.hl.toNat = k ∧
      t = { s with a := memRead s s.hl, h := t.h, l := t.l, pc := s.pc + 1, cycles := s.cycles + 8 } :=
  ⟨_, rfl, (congrArg BitVec.toNat (hl_setHl s w)).trans hk, rfl⟩

theorem storeAThenHl_next (s : State) {w : Word} {k : Nat} (hk : w.toNat = k) :
    ∃ t, storeAThenHl w s = .next t ∧ t.hl.toNat = k ∧
      t = { memWrite s s.hl s.a with h := t.h, l := t.l, pc := s.pc + 1, cycles := s.cycles + 8 } :=
  ⟨_, retireAdvance_eq (t := (memWrite s s.hl s.a).setHl w) (memWrite_pc s s.hl s.a) (memWrite_cycles s s.hl s.a) 1 8,
    (congrArg BitVec.toNat (hl_setHl (memWrite s s.hl s.a) w)).trans hk, rfl⟩

theorem toNat_add_one (w : Word) : (w + 1).toNat = (w.toNat + 1) % 65536 := BitVec.toNat_add w 1

theorem toNat_sub_one (w : Word) : (w - 1).toNat = (w.toNat + 65535) % 65536 := by
  rw [BitVec.toNat_sub, Nat.add_comm]
  rfl

/-- Settles O20: the access at the old HL, then HL as a number. -/
theorem postStepLoadsAndStores : Obligations.PostStepLoadsAndStores := fun s =>
  ⟨rfl, rfl, rfl, rfl, loadAThenHl_next s (toNat_add_one s.hl), loadAThenHl_next s (toNat_sub_one s.hl),
    storeAThenHl_next s (toNat_add_one s.hl), storeAThenHl_next s (toNat_sub_one s.hl)⟩

/-! ## Loads of a word -/

theorem encode_pairs (nn : Word) :
    ∀ row ∈ pairs nn, encode row.1.1 = [byte (0x01 + 16 * pairCode row.2), lo nn, hi nn] := List.map_inj_left.mp rfl

theorem exec_pairs (nn : Word) : ∀ row ∈ pairs nn, exec row.1.1 = loadPairImm row.2 nn := List.map_inj_left.mp rfl

theorem loadPairImm_eq (r : Reg16) (nn : Word) (s : State) :
    loadPairImm r nn s = .next { s.setReg16 r nn with pc := s.pc + 3, cycles := s.cycles + 12 } :=
  retireAdvance_eq (setReg16_pc s r nn) (setReg16_cycles s r nn) 3 12

/-- LD (nn),SP: two bus writes, the low byte first (R221). -/
theorem exec_ld_indNn_sp_eq (nn : Word) (s : State) : exec (.ld_indNn_sp nn) s =
    .next { memWrite (memWrite s nn (lo s.sp)) (nn + 1) (hi s.sp) with pc := s.pc + 3, cycles := s.cycles + 20 } :=
  retireAdvance_eq (t := memWrite16 s nn s.sp) (by simp [memWrite16]) (by simp [memWrite16]) 3 20

/-- Settles O21: the pairs row by row, then the two forms of SP. -/
theorem wordLoads : Obligations.WordLoads := by
  refine ⟨fun nn row hrow s => ⟨encode_pairs nn row hrow, ?_⟩, rfl, fun _ => rfl, fun nn s => ⟨rfl, exec_ld_indNn_sp_eq nn s⟩⟩
  rw [exec_pairs nn row hrow, loadPairImm_eq]

end Sys2Proof.Machine
end

section
/-! PROOFS. PUSH, POP, and POP after PUSH (40_loads.md R226 to R230, 10_state.md R32). -/

namespace Sys2Proof.Machine

open Sys2Proof.Rows

theorem encode_push : ∀ row ∈ stackPairs, encode row.1.1 = [byte (0xC5 + 16 * stackPairCode row.2)] := by decide

theorem encode_pop : ∀ row ∈ stackPairs, encode row.1.2 = [byte (0xC1 + 16 * stackPairCode row.2)] := by decide

theorem exec_push : ∀ row ∈ stackPairs, exec row.1.1 = pushPair row.2 := List.map_inj_left.mp rfl

theorem exec_pop : ∀ row ∈ stackPairs, exec row.1.2 = popPair row.2 := List.map_inj_left.mp rfl

theorem pushPair_eq (q : StackPair) (s : State) :
    pushPair q s = .next { pushed s (s.stackPair q) with pc := s.pc + 1, cycles := s.cycles + 16 } := by
  rw [pushPair, push16_eq_pushed]
  exact retireAdvance_eq (by simp [pushed]) (by simp [pushed]) 1 16

theorem popped_eq (s : State) : popped s = { s with sp := s.sp + 2 } := by
  rw [popped, BitVec.add_assoc]
  rfl

theorem popPair_eq (q : StackPair) (s : State) : popPair q s = .next { { s with sp := s.sp + 2 }.setStackPair q
    (word (memRead s (s.sp + 1)) (memRead s s.sp)) with pc := s.pc + 1, cycles := s.cycles + 12 } := by
  rw [popPair, popped_eq]
  exact retireAdvance_eq (setStackPair_pc _ q _) (setStackPair_cycles _ q _) 1 12

/-- Settles O22: each form is `pushPair` or `popPair`. -/
theorem pushAndPop : Obligations.PushAndPop := by
  intro row hrow s
  refine ⟨encode_push row hrow, encode_pop row hrow, ?_, ?_⟩
  · rw [exec_push row hrow, pushPair_eq]
  · rw [exec_pop row hrow, popPair_eq]

/-! ## Two neighbouring bytes of plain memory are two bytes -/

/-- The offset of a plain target in its array (10_state.md R39). -/
def ramOffset : BusTarget → Nat
  | .vram i | .eram i | .wram i | .oam i | .hram i => i
  | _ => 0

/-- Every range of plain memory starts at an even address and an even offset (R82), so an address and its offset have one parity. -/
theorem ramOffset_parity {s : State} {addr : Word} (h : isRam (busTarget s addr) = true) :
    ramOffset (busTarget s addr) % 2 = addr.toNat % 2 := by
  revert h
  unfold busTarget eramTarget Config.ramBankSize
  dsimp only
  (repeat' split) <;> simp only [isRam, false_implies, true_implies, Bool.false_eq_true]
  all_goals
    rw [ramOffset]
    omega

/-- One address and the next have different parities, at the wrap too. -/
theorem busTarget_next_ne {s : State} {addr : Word} (h : isRam (busTarget s addr) = true)
    (h' : isRam (busTarget s (addr + 1)) = true) : busTarget s (addr + 1) ≠ busTarget s addr := by
  intro same
  have parity := ramOffset_parity h
  rw [← same, ramOffset_parity h', toNat_add_one] at parity
  omega

/-! ## The stack after a push -/

theorem sub_two_add_one (w : Word) : w - 2 + 1 = w - 1 := by
  rw [← sub_one_one, BitVec.sub_add_cancel]

/-- What a pop finds where a push to plain memory left SP, whatever else of the CPU has changed. -/
theorem popValue_pushed {s t : State} (hs : StorageLegal s) (high : isRam (busTarget s (s.sp - 1)) = true)
    (low : isRam (busTarget s (s.sp - 2)) = true) {w : Word}
    (stored : CpuAlone (memWrite (memWrite s (s.sp - 1) (hi w)) (s.sp - 2) (lo w)) t) (hsp : t.sp = s.sp - 2) :
    popValue t = w := by
  have apart : busTarget s (s.sp - 1) ≠ busTarget s (s.sp - 2) := by
    rw [← sub_two_add_one] at high ⊢
    exact busTarget_next_ne low high
  have low' : isRam (busTarget (memWrite s (s.sp - 1) (hi w)) (s.sp - 2)) = true :=
    (busTarget_memWrite_ram high _ _).symm ▸ low
  have second := memRead_memWrite_ram (memWrite_storage (s.sp - 1) (hi w) hs) low' (lo w)
  have readHigh : memRead t (s.sp - 1) = hi w := by
    rw [stored.memRead_eq, second, busTarget_memWrite_ram high, busTarget_memWrite_ram high, if_neg apart,
      memRead_memWrite_ram hs high, if_pos rfl]
  have readLow : memRead t (s.sp - 2) = lo w := by
    rw [stored.memRead_eq, second, if_pos rfl]
  rw [popValue, hsp, sub_two_add_one, readHigh, readLow, word_hi_lo]

/-- Where F[3:0] = 0, AF loses nothing to the mask of a write (R32). -/
theorem af_maskFlags {s : State} (h : s.f &&& 0x0F#8 = 0x00#8) : s.af &&& 0xFFF0#16 = s.af := by
  have kept : s.f &&& 0xF0#8 = s.f :=
    calc s.f &&& 0xF0#8
      _ = (s.f &&& 0xF0#8) ||| (s.f &&& 0x0F#8) := by rw [h, BitVec.or_zero]
      _ = s.f &&& (0xF0#8 ||| 0x0F#8) := BitVec.and_or_distrib_left.symm
      _ = s.f := BitVec.and_allOnes
  rw [← word_maskFlags, State.af, hi_word, lo_word, kept]

/-- A pair that is written back is read as it was (R31, R32). -/
theorem stackPair_restored {s : State} (hf : s.f &&& 0x0F#8 = 0x00#8) (t : State) (q : StackPair) :
    (t.setStackPair q (s.stackPair q)).stackPair q = s.stackPair q := by
  rw [stackPair_setStackPair]
  split
  case isTrue af =>
    subst af
    exact af_maskFlags hf
  case isFalse => rfl

/-- No pair depends on PC and the cycle count. -/
theorem stackPair_atPc (s : State) (pc : Word) (cyc : Nat) (q : StackPair) :
    State.stackPair { s with pc := pc, cycles := cyc } q = s.stackPair q := by cases q <;> rfl

/-- Settles O23: the two bytes pushed are apart, so the pop finds them both; AF has no low bits to lose. -/
theorem popUndoesPush : Obligations.PopUndoesPush := by
  intro row hrow s hs hf high low
  obtain ⟨-, -, push, -⟩ := pushAndPop row hrow s
  obtain ⟨t, ht⟩ : ∃ t, t = { pushed s (s.stackPair row.2) with pc := s.pc + 1, cycles := s.cycles + 16 } := ⟨_, rfl⟩
  rw [← ht] at push
  have hsp : t.sp = s.sp - 2 := congrArg State.sp ht
  have value : popValue t = s.stackPair row.2 := popValue_pushed hs high low (ht ▸ rfl) hsp
  obtain ⟨-, -, -, pop⟩ := pushAndPop row hrow t
  refine ⟨t, _, push, pop, ?pair, ?sp⟩
  case pair =>
    rw [stackPair_atPc, ← popValue, value, stackPair_restored hf]
  case sp =>
    rw [setStackPair_sp, hsp, BitVec.sub_add_cancel]

end Sys2Proof.Machine
end

section
/-! PROOFS. 8-bit arithmetic and logic (41_alu8.md R245 to R281). -/

namespace Sys2Proof.Machine

open Sys2Proof.Rows

/-! ## The ALU functions on numbers -/

theorem ofNat_eq_zero_iff (n : Nat) : BitVec.ofNat 8 n = 0x00#8 ↔ n % 256 = 0 := by
  rw [← BitVec.toNat_inj]
  exact Iff.rfl

theorem lowNibble_toNat (v : Byte) : (v &&& 0x0F#8).toNat = v.toNat % 16 :=
  Nat.and_two_pow_sub_one_eq_mod v.toNat 4

/-- `alu_add` (R245), the carry out of each digit as a bound on its sum. -/
theorem aluAdd_eq (a b : Byte) (c : Bool) : aluAdd a b c =
    { value := BitVec.ofNat 8 (a.toNat + b.toNat + c.toNat)
      flags :=
        { z := decide ((a.toNat + b.toNat + c.toNat) % 256 = 0), n := false
          h := decide (a.toNat % 16 + b.toNat % 16 + c.toNat > 15)
          c := decide (a.toNat + b.toNat + c.toNat > 255) } } := by
  simp only [aluAdd, beq_eq_decide, ofNat_eq_zero_iff, lowNibble_toNat]

/-- The integer difference of R246, which may be negative, and a natural number with the same remainder modulo 256. -/
theorem ofInt_borrow (a b : Byte) (c : Bool) : BitVec.ofInt 8 ((a.toNat : Int) - b.toNat - c.toNat) =
    BitVec.ofNat 8 (a.toNat + 512 - b.toNat - c.toNat) := by
  apply BitVec.eq_of_toNat_eq
  rw [BitVec.toNat_ofInt, BitVec.toNat_ofNat]
  have hb := b.isLt
  have hc := c.toNat_le
  omega

/-- `alu_sub` (R246), kept positive by 512, which is 0 modulo 256. -/
theorem aluSub_eq (a b : Byte) (c : Bool) : aluSub a b c =
    { value := BitVec.ofNat 8 (a.toNat + 512 - b.toNat - c.toNat)
      flags :=
        { z := decide ((a.toNat + 512 - b.toNat - c.toNat) % 256 = 0), n := true
          h := decide (a.toNat % 16 < b.toNat % 16 + c.toNat)
          c := decide (a.toNat < b.toNat + c.toNat) } } := by
  simp only [aluSub, ofInt_borrow, beq_eq_decide, ofNat_eq_zero_iff, lowNibble_toNat]

/-- R246 without a borrow to take in: the difference is 0 exactly for equal operands. -/
theorem aluSub_false (a b : Byte) : aluSub a b false =
    { value := BitVec.ofNat 8 (a.toNat + 256 - b.toNat)
      flags :=
        { z := decide (a.toNat = b.toNat), n := true, h := decide (a.toNat % 16 < b.toNat % 16)
          c := decide (a.toNat < b.toNat) } } := by
  have ha := a.isLt
  have hb := b.isLt
  have value : BitVec.ofNat 8 (a.toNat + 512 - b.toNat) = BitVec.ofNat 8 (a.toNat + 256 - b.toNat) := by
    apply BitVec.eq_of_toNat_eq
    rw [BitVec.toNat_ofNat, BitVec.toNat_ofNat]
    omega
  have zero : (a.toNat + 512 - b.toNat) % 256 = 0 ↔ a.toNat = b.toNat := by omega
  simp only [aluSub_eq, Bool.toNat_false, Nat.sub_zero, Nat.add_zero, value, zero]

/-- R247: a XOR is 0 exactly for equal operands. -/
theorem aluXor_eq (a b : Byte) : aluXor a b =
    { value := a ^^^ b, flags := { z := decide (a = b), n := false, h := false, c := false } } := by
  simp only [aluXor, beq_eq_decide, BitVec.xor_eq_zero_iff]

/-- R247: an OR is 0 exactly for two zero operands. -/
theorem aluOr_eq (a b : Byte) : aluOr a b =
    { value := a ||| b, flags := { z := decide (a = 0x00#8 ∧ b = 0x00#8), n := false, h := false, c := false } } := by
  simp only [aluOr, beq_eq_decide, BitVec.or_eq_zero_iff]

/-- `alu_inc` (R248): the wrap and the half carry by the old byte alone. -/
theorem aluInc_eq (v : Byte) (old : Flags) : aluInc v old =
    { value := BitVec.ofNat 8 (v.toNat + 1)
      flags := { z := decide (v.toNat = 255), n := false, h := decide (v.toNat % 16 = 15), c := old.c } } := by
  have value : v + 1 = BitVec.ofNat 8 (v.toNat + 1) := BitVec.eq_of_toNat_eq rfl
  have zero : (v.toNat + 1) % 256 = 0 ↔ v.toNat = 255 := by
    have hv := v.isLt
    omega
  have half : v &&& 0x0F#8 = 0x0F#8 ↔ v.toNat % 16 = 15 := by
    rw [← BitVec.toNat_inj, lowNibble_toNat]
    exact Iff.rfl
  simp only [aluInc, value, beq_eq_decide, ofNat_eq_zero_iff, zero, half]

/-- `alu_dec` (R248): the zero and the half borrow by the old byte alone. -/
theorem aluDec_eq (v : Byte) (old : Flags) : aluDec v old =
    { value := BitVec.ofNat 8 (v.toNat + 255)
      flags := { z := decide (v.toNat = 1), n := true, h := decide (v.toNat % 16 = 0), c := old.c } } := by
  have value : v - 1 = BitVec.ofNat 8 (v.toNat + 255) := by
    rw [BitVec.ofNat_add, BitVec.ofNat_toNat, BitVec.setWidth_eq]
    exact BitVec.sub_eq_add_neg v 1
  have zero : (v.toNat + 255) % 256 = 0 ↔ v.toNat = 1 := by
    have hv := v.isLt
    omega
  have half : v &&& 0x0F#8 = 0x00#8 ↔ v.toNat % 16 = 0 := by
    rw [← BitVec.toNat_inj, lowNibble_toNat]
    exact Iff.rfl
  simp only [aluDec, value, beq_eq_decide, ofNat_eq_zero_iff, zero, half]

/-- The two digits of DAA's correction have no bit in common, so their OR is their sum (R278). -/
theorem daaCorrection_toNat (high low : Prop) [Decidable high] [Decidable low] :
    ((if high then 0x60#8 else 0x00#8) ||| (if low then 0x06#8 else 0x00#8)).toNat =
      (if high then 0x60 else 0) + (if low then 6 else 0) := by
  split <;> split <;> rfl

/-- R278 after an addition: both tests are of the byte before the correction. -/
theorem aluDaa_add (a : Byte) {old : Flags} (hn : old.n = false) : aluDaa a old =
    { value := BitVec.ofNat 8 (a.toNat + (if old.c = true ∨ 0x99 < a.toNat then 0x60 else 0)
        + (if old.h = true ∨ 9 < a.toNat % 16 then 6 else 0))
      flags :=
        { z := decide ((a.toNat + (if old.c = true ∨ 0x99 < a.toNat then 0x60 else 0)
            + (if old.h = true ∨ 9 < a.toNat % 16 then 6 else 0)) % 256 = 0)
          n := false, h := false, c := decide (old.c = true ∨ 0x99 < a.toNat) } } := by
  have value (adj : Byte) : a + adj = BitVec.ofNat 8 (a.toNat + adj.toNat) := BitVec.eq_of_toNat_eq rfl
  simp only [aluDaa, hn, Bool.false_eq_true, if_false, value, daaCorrection_toNat, beq_eq_decide, ofNat_eq_zero_iff,
    lowNibble_toNat, Bool.or_eq_true, decide_eq_true_eq, gt_iff_lt, Bool.decide_or, Bool.decide_eq_true,
    ← Nat.add_assoc]

/-- R278 after a subtraction. -/
theorem aluDaa_sub (a : Byte) {old : Flags} (hn : old.n = true) : aluDaa a old =
    { value := BitVec.ofNat 8 (a.toNat + 256 - (if old.c = true then 0x60 else 0) - (if old.h = true then 6 else 0))
      flags :=
        { z := decide ((a.toNat + 256 - (if old.c = true then 0x60 else 0) - (if old.h = true then 6 else 0)) % 256 = 0)
          n := true, h := false, c := old.c } } := by
  have value (adj : Byte) : a - adj = BitVec.ofNat 8 (a.toNat + 256 - adj.toNat) := by
    apply BitVec.eq_of_toNat_eq
    rw [BitVec.toNat_sub, BitVec.toNat_ofNat]
    have := adj.isLt
    omega
  simp only [aluDaa, hn, if_true, value, daaCorrection_toNat, beq_eq_decide, ofNat_eq_zero_iff, ← Nat.sub_sub]

theorem not_eq_ofNat (v : Byte) : ~~~v = BitVec.ofNat 8 (255 - v.toNat) := by
  apply BitVec.eq_of_toNat_eq
  rw [BitVec.toNat_not, BitVec.toNat_ofNat]
  omega

/-! ## The operations as whole states -/

/-- The flags go to F after another write that left PC and the cycle count alone. -/
theorem retireSetFlags_eq {s t : State} (hpc : t.pc = s.pc) (hcycles : t.cycles = s.cycles) (fl : Flags) (len cyc : Nat) :
    retire cyc (advance len (t.setFlags fl)) = .next { t with
      f := flagByte fl.z fl.n fl.h fl.c, pc := s.pc + BitVec.ofNat 16 len, cycles := s.cycles + cyc } := by
  rw [retireAdvance_eq (t := t.setFlags fl) hpc hcycles, State.setFlags, packFlags_eq_flagByte]

theorem aluTo_eq (out : AluOut) (len cyc : Nat) (s : State) : aluTo out len cyc s = .next { s with
    a := out.value, f := flagByte out.flags.z out.flags.n out.flags.h out.flags.c
    pc := s.pc + BitVec.ofNat 16 len, cycles := s.cycles + cyc } :=
  retireSetFlags_eq (t := { s with a := out.value }) rfl rfl out.flags len cyc

theorem aluFlags_eq (fl : Flags) (len cyc : Nat) (s : State) : aluFlags fl len cyc s = .next { s with
    f := flagByte fl.z fl.n fl.h fl.c, pc := s.pc + BitVec.ofNat 16 len, cycles := s.cycles + cyc } :=
  retireSetFlags_eq rfl rfl fl len cyc

/-- A row of a table of ALU forms: its bytes, its operation and its costs are those of its operand. -/
def AluRow (op : Nat) (run : Src8 → State → Result) (row : Instr × Src8 × Word × Nat) : Prop :=
  (encode row.1, exec row.1, row.2.2) =
    (aluBytes op row.2.1, run row.2.1, BitVec.ofNat 16 (srcLength row.2.1), srcCycles row.2.1)

theorem addForms_aluRow (n : Byte) : ∀ row ∈ addForms n, AluRow 0 addA row := List.map_inj_left.mp rfl
theorem adcForms_aluRow (n : Byte) : ∀ row ∈ adcForms n, AluRow 1 adcA row := List.map_inj_left.mp rfl
theorem subForms_aluRow (n : Byte) : ∀ row ∈ subForms n, AluRow 2 subA row := List.map_inj_left.mp rfl
theorem sbcForms_aluRow (n : Byte) : ∀ row ∈ sbcForms n, AluRow 3 sbcA row := List.map_inj_left.mp rfl
theorem andForms_aluRow (n : Byte) : ∀ row ∈ andForms n, AluRow 4 andA row := List.map_inj_left.mp rfl
theorem xorForms_aluRow (n : Byte) : ∀ row ∈ xorForms n, AluRow 5 xorA row := List.map_inj_left.mp rfl
theorem orForms_aluRow (n : Byte) : ∀ row ∈ orForms n, AluRow 6 orA row := List.map_inj_left.mp rfl
theorem cpForms_aluRow (n : Byte) : ∀ row ∈ cpForms n, AluRow 7 cpA row := List.map_inj_left.mp rfl

section Row

variable {op : Nat} {run : Src8 → State → Result} {row : Instr × Src8 × Word × Nat} {s : State}

/-- What a row's operation leaves, with the row's own length and cycles. -/
theorem AluRow.next (hrow : AluRow op run row) {a f : Byte} (hrun : run row.2.1 s = .next { s with
      a := a, f := f, pc := s.pc + BitVec.ofNat 16 (srcLength row.2.1), cycles := s.cycles + srcCycles row.2.1 }) :
    encode row.1 = aluBytes op row.2.1 ∧
      exec row.1 s = .next { s with a := a, f := f, pc := s.pc + row.2.2.1, cycles := s.cycles + row.2.2.2 } := by
  obtain ⟨i, src, len, cyc⟩ := row
  obtain ⟨bytes, operation, rfl, rfl⟩ : encode i = aluBytes op src ∧ exec i = run src ∧
      len = BitVec.ofNat 16 (srcLength src) ∧ cyc = srcCycles src := by simpa [AluRow] using hrow
  exact ⟨bytes, operation ▸ hrun⟩

/-- A row whose operation writes a result and its flags. -/
theorem AluRow.next_aluTo (hrow : AluRow op run row) {out out' : AluOut} (hout : out = out')
    (hrun : run row.2.1 s = aluTo out (srcLength row.2.1) (srcCycles row.2.1) s) :
    encode row.1 = aluBytes op row.2.1 ∧ exec row.1 s = .next { s with
      a := out'.value, f := flagByte out'.flags.z out'.flags.n out'.flags.h out'.flags.c
      pc := s.pc + row.2.2.1, cycles := s.cycles + row.2.2.2 } :=
  hrow.next (hrun.trans (hout ▸ aluTo_eq out _ _ s))

end Row

/-- Settles O24: each row is `addA` or `adcA` of its operand. -/
theorem addAndAdc : Obligations.AddAndAdc :=
  ⟨fun n row hrow s => (addForms_aluRow n row hrow).next_aluTo (aluAdd_eq s.a (readSrc s row.2.1) false) rfl,
    fun n row hrow s => (adcForms_aluRow n row hrow).next_aluTo (aluAdd_eq s.a (readSrc s row.2.1) s.flags.c) rfl⟩

/-- Settles O25: each row is `subA`, `sbcA` or `cpA` of its operand; CP writes only the flags. -/
theorem subSbcAndCp : Obligations.SubSbcAndCp := by
  refine ⟨fun n row hrow s => ?sub, fun n row hrow s => ?sbc, fun n row hrow s => ?cp⟩
  case sub => exact (subForms_aluRow n row hrow).next_aluTo (aluSub_false s.a (readSrc s row.2.1)) rfl
  case sbc => exact (sbcForms_aluRow n row hrow).next_aluTo (aluSub_eq s.a (readSrc s row.2.1) s.flags.c) rfl
  case cp =>
    apply (cpForms_aluRow n row hrow).next (a := s.a)
    rw [cpA, aluFlags_eq, aluSub_false]

/-- Settles O26: each row is `andA`, `xorA` or `orA` of its operand. -/
theorem andXorOr : Obligations.AndXorOr :=
  ⟨fun n row hrow s => (andForms_aluRow n row hrow).next_aluTo (out := aluAnd s.a (readSrc s row.2.1)) rfl rfl,
    fun n row hrow s => (xorForms_aluRow n row hrow).next_aluTo (aluXor_eq s.a (readSrc s row.2.1)) rfl,
    fun n row hrow s => (orForms_aluRow n row hrow).next_aluTo (aluOr_eq s.a (readSrc s row.2.1)) rfl⟩

/-! ## INC and DEC -/

theorem encode_incDecReg : ∀ row ∈ incDecReg, encode row.1 = [byte (0x04 + 8 * regCode row.2.2)] ∧
    encode row.2.1 = [byte (0x05 + 8 * regCode row.2.2)] := by decide

theorem exec_incReg : ∀ row ∈ incDecReg, exec row.1 = incReg row.2.2 := List.map_inj_left.mp rfl

theorem exec_decReg : ∀ row ∈ incDecReg, exec row.2.1 = decReg row.2.2 := List.map_inj_left.mp rfl

/-- Settles O27: a register or the byte at HL, by `aluInc` and `aluDec`. -/
theorem incAndDec8 : Obligations.IncAndDec8 := by
  refine ⟨fun row hrow s => ?reg, fun s => ⟨rfl, rfl, ?incHl, ?decHl⟩⟩
  case reg =>
    obtain ⟨encodeInc, encodeDec⟩ := encode_incDecReg row hrow
    refine ⟨encodeInc, encodeDec, ?_, ?_⟩
    · rw [exec_incReg row hrow, incReg, aluInc_eq]
      exact retireSetFlags_eq (setReg_pc _ _ _) (setReg_cycles _ _ _) _ 1 4
    · rw [exec_decReg row hrow, decReg, aluDec_eq]
      exact retireSetFlags_eq (setReg_pc _ _ _) (setReg_cycles _ _ _) _ 1 4
  case incHl =>
    change incHl s = _
    rw [incHl, aluInc_eq]
    exact retireSetFlags_eq (memWrite_pc _ _ _) (memWrite_cycles _ _ _) _ 1 12
  case decHl =>
    change decHl s = _
    rw [decHl, aluDec_eq]
    exact retireSetFlags_eq (memWrite_pc _ _ _) (memWrite_cycles _ _ _) _ 1 12

/-! ## DAA, CPL, SCF, CCF -/

theorem exec_daa_eq (s : State) : exec .daa s = aluTo (aluDaa s.a s.flags) 1 4 s := rfl

theorem exec_cpl_eq (s : State) : exec .cpl s =
    aluTo { value := ~~~s.a, flags := { s.flags with n := true, h := true } } 1 4 s := rfl

/-- Settles O28: DAA by the N flag, which says what the byte before came from. -/
theorem daaCplScfCcf : Obligations.DaaCplScfCcf := by
  refine fun s => ⟨rfl, rfl, rfl, rfl, fun hn => ?add, fun hn => ?sub, ?cpl, aluFlags_eq _ 1 4 s, aluFlags_eq _ 1 4 s⟩
  case add =>
    rw [exec_daa_eq, aluDaa_add s.a (old := s.flags) hn, aluTo_eq]
    rfl
  case sub =>
    rw [exec_daa_eq, aluDaa_sub s.a (old := s.flags) hn, aluTo_eq]
    rfl
  case cpl =>
    rw [exec_cpl_eq, not_eq_ofNat, aluTo_eq]
    rfl

/-! ## DAA after a sum or a difference of decimal bytes -/

/-- DAA right after an instruction that leaves a result in A corrects that result by its flags. -/
theorem daa_after_aluTo (out : AluOut) (len cyc : Nat) (s : State) : ∃ t u, aluTo out len cyc s = .next t ∧
    exec .daa t = .next u ∧ u.a = (aluDaa out.value out.flags).value ∧ u.flags = (aluDaa out.value out.flags).flags := by
  obtain ⟨t, ht⟩ : ∃ t, t = { { s with a := out.value }.setFlags out.flags with
      pc := s.pc + BitVec.ofNat 16 len, cycles := s.cycles + cyc } := ⟨_, rfl⟩
  have value : t.a = out.value := congrArg State.a ht
  have flags : t.flags = out.flags := (congrArg State.flags ht).trans (flags_setFlags { s with a := out.value } out.flags)
  rw [← value, ← flags]
  exact ⟨t, _, ht ▸ rfl, rfl, rfl, flags_setFlags { t with a := (aluDaa t.a t.flags).value } (aluDaa t.a t.flags).flags⟩

theorem bcd_toNat {x : Nat} (hx : x < 100) : (bcd x).toNat = 16 * (x / 10) + x % 10 := by
  rw [bcd, BitVec.toNat_ofNat]
  omega

/-- A byte whose number modulo 256 shows the digits of `x` is `bcd x`, and is 0 exactly if `x` is. -/
theorem ofNat_eq_bcd {n x : Nat} (h : n % 256 = 16 * (x / 10) + x % 10) :
    BitVec.ofNat 8 n = bcd x ∧ (n % 256 = 0 ↔ x = 0) := by
  refine ⟨BitVec.eq_of_toNat_eq ?_, by omega⟩
  rw [bcd, BitVec.toNat_ofNat, BitVec.toNat_ofNat]
  omega

/-- The correction carries each digit's sum into the next at 10 instead of 16. -/
theorem aluDaa_aluAdd_bcd {x y : Nat} (hx : x < 100) (hy : y < 100) (c : Bool) :
    aluDaa (aluAdd (bcd x) (bcd y) c).value (aluAdd (bcd x) (bcd y) c).flags =
      { value := bcd ((x + y + c.toNat) % 100)
        flags := { z := decide ((x + y + c.toNat) % 100 = 0), n := false, h := false, c := decide (99 < x + y + c.toNat) } } := by
  rw [aluAdd_eq, aluDaa_add _ rfl, bcd_toNat hx, bcd_toNat hy, BitVec.toNat_ofNat]
  have hc := c.toNat_le
  generalize c.toNat = c at hc ⊢
  generalize hsum : 16 * (x / 10) + x % 10 + (16 * (y / 10) + y % 10) + c = sum
  have high : (sum > 255 ∨ 0x99 < sum % 256) ↔ 99 < x + y + c := by omega
  have low : ((16 * (x / 10) + x % 10) % 16 + (16 * (y / 10) + y % 10) % 16 + c > 15 ∨ 9 < sum % 256 % 16) ↔
      9 < x % 10 + y % 10 + c := by omega
  have digits : (sum % 256 + (if 99 < x + y + c then 0x60 else 0) + (if 9 < x % 10 + y % 10 + c then 6 else 0)) % 256 =
      16 * ((x + y + c) % 100 / 10) + (x + y + c) % 100 % 10 := by
    split <;> split <;> omega
  obtain ⟨value, zero⟩ := ofNat_eq_bcd digits
  simp only [decide_eq_true_eq, Nat.reducePow, high, low, value, zero]

/-- The correction borrows 10 instead of 16 from the next digit. -/
theorem aluDaa_aluSub_bcd {x y : Nat} (hx : x < 100) (hy : y < 100) (c : Bool) :
    aluDaa (aluSub (bcd x) (bcd y) c).value (aluSub (bcd x) (bcd y) c).flags =
      { value := bcd ((x + 200 - y - c.toNat) % 100)
        flags := { z := decide ((x + 200 - y - c.toNat) % 100 = 0), n := true, h := false, c := decide (x < y + c.toNat) } } := by
  rw [aluSub_eq, aluDaa_sub _ rfl, bcd_toNat hx, bcd_toNat hy, BitVec.toNat_ofNat]
  have hc := c.toNat_le
  generalize c.toNat = c at hc ⊢
  generalize hdiff : 16 * (x / 10) + x % 10 + 512 - (16 * (y / 10) + y % 10) - c = diff
  have high : 16 * (x / 10) + x % 10 < 16 * (y / 10) + y % 10 + c ↔ x < y + c := by omega
  have low : (16 * (x / 10) + x % 10) % 16 < (16 * (y / 10) + y % 10) % 16 + c ↔ x % 10 < y % 10 + c := by omega
  have digits : (diff % 256 + 256 - (if x < y + c then 0x60 else 0) - (if x % 10 < y % 10 + c then 6 else 0)) % 256 =
      16 * ((x + 200 - y - c) % 100 / 10) + (x + 200 - y - c) % 100 % 10 := by
    split <;> split <;> omega
  obtain ⟨value, zero⟩ := ofNat_eq_bcd digits
  simp only [decide_eq_true_eq, Nat.reducePow, high, low, value, zero]

/-- Settles O29: DAA corrects the sum or the difference that the instruction before left. -/
theorem daaGivesDecimalSums : Obligations.DaaGivesDecimalSums := by
  intro s x y hx hy ha
  refine ⟨?sum, ?difference⟩
  case sum =>
    obtain ⟨t, u, ht, hu, value, flags⟩ := daa_after_aluTo (aluAdd s.a (bcd y) s.flags.c) 2 8 s
    rw [ha, aluDaa_aluAdd_bcd hx hy] at value flags
    exact ⟨t, u, ht, hu, value, (Bool.eq_iff_iff.mp (congrArg Flags.c flags)).trans decide_eq_true_iff,
      (Bool.eq_iff_iff.mp (congrArg Flags.z flags)).trans decide_eq_true_iff⟩
  case difference =>
    obtain ⟨t, u, ht, hu, value, flags⟩ := daa_after_aluTo (aluSub s.a (bcd y) s.flags.c) 2 8 s
    rw [ha, aluDaa_aluSub_bcd hx hy] at value flags
    exact ⟨t, u, ht, hu, value, (Bool.eq_iff_iff.mp (congrArg Flags.c flags)).trans decide_eq_true_iff,
      (Bool.eq_iff_iff.mp (congrArg Flags.z flags)).trans decide_eq_true_iff⟩

end Sys2Proof.Machine
end

section
/-! PROOFS. 16-bit arithmetic (42_alu16.md R300 to R304). -/

namespace Sys2Proof.Machine

open Sys2Proof.Rows

/-! ## The 16-bit sums on numbers -/

theorem add_one_eq_ofNat (w : Word) : w + 1 = BitVec.ofNat 16 (w.toNat + 1) := BitVec.eq_of_toNat_eq rfl

theorem sub_one_eq_ofNat (w : Word) : w - 1 = BitVec.ofNat 16 (w.toNat + 65535) :=
  BitVec.eq_of_toNat_eq (toNat_sub_one w)

theorem low12_toNat (w : Word) : (w &&& 0x0FFF#16).toNat = w.toNat % 4096 :=
  Nat.and_two_pow_sub_one_eq_mod w.toNat 12

theorem low8_toNat (w : Word) : (w &&& 0x00FF#16).toNat = w.toNat % 256 :=
  Nat.and_two_pow_sub_one_eq_mod w.toNat 8

theorem low4_toNat (w : Word) : (w &&& 0x000F#16).toNat = w.toNat % 16 :=
  Nat.and_two_pow_sub_one_eq_mod w.toNat 4

/-- R302: the carries out of bits 11 and 15 as bounds on sums; Z is the old one. -/
theorem addHlFlags_eq (a b : Word) (old : Flags) : addHlFlags a b old =
    { z := old.z, n := false, h := decide (a.toNat % 4096 + b.toNat % 4096 > 4095)
      c := decide (a.toNat + b.toNat > 65535) } := by
  rw [addHlFlags, low12_toNat, low12_toNat]

/-- R303, R304: the carries out of bits 3 and 7 of the low-byte sum, with the displacement unsigned. -/
theorem spPlusFlags_eq (sp : Word) (e : Byte) : spPlusFlags sp e =
    { z := false, n := false, h := decide (sp.toNat % 16 + e.toNat % 16 > 15)
      c := decide (sp.toNat % 256 + e.toNat > 255) } := by
  rw [spPlusFlags, low4_toNat, low8_toNat, lowNibble_toNat]

/-- Adding `sext_16` of a displacement moves a word by the signed number, modulo 2^16 (00_scope.md R10). -/
theorem add_sext16 (w : Word) (e : Byte) : w + sext16 e = BitVec.ofInt 16 (w.toNat + e.toInt) := by
  rw [sext16_eq, BitVec.ofInt_add, BitVec.ofInt_natCast, BitVec.ofNat_toNat, BitVec.setWidth_eq]

/-! ## INC rr, DEC rr and ADD HL,rr -/

theorem encode_pairArithmetic (nn : Word) : ∀ row ∈ pairs nn,
    (encode row.1.2.1, encode row.1.2.2.1, encode row.1.2.2.2) =
      ([byte (0x03 + 16 * pairCode row.2)], [byte (0x0B + 16 * pairCode row.2)], [byte (0x09 + 16 * pairCode row.2)]) :=
  List.map_inj_left.mp rfl

theorem exec_pairArithmetic (nn : Word) : ∀ row ∈ pairs nn,
    (exec row.1.2.1, exec row.1.2.2.1, exec row.1.2.2.2) = (incPair row.2, decPair row.2, addHl row.2) :=
  List.map_inj_left.mp rfl

theorem retireSetReg16_eq (s : State) (r : Reg16) (w : Word) (len cyc : Nat) :
    retire cyc (advance len (s.setReg16 r w)) =
      .next { s.setReg16 r w with pc := s.pc + BitVec.ofNat 16 len, cycles := s.cycles + cyc } :=
  retireAdvance_eq (setReg16_pc s r w) (setReg16_cycles s r w) len cyc

theorem retireSetReg16SetFlags_eq (s : State) (r : Reg16) (w : Word) (fl : Flags) (len cyc : Nat) :
    retire cyc (advance len ((s.setReg16 r w).setFlags fl)) = .next { s.setReg16 r w with
      f := flagByte fl.z fl.n fl.h fl.c, pc := s.pc + BitVec.ofNat 16 len, cycles := s.cycles + cyc } :=
  retireSetFlags_eq (setReg16_pc s r w) (setReg16_cycles s r w) fl len cyc

theorem incPair_eq (r : Reg16) (s : State) : incPair r s =
    .next { s.setReg16 r (BitVec.ofNat 16 ((s.reg16 r).toNat + 1)) with pc := s.pc + 1, cycles := s.cycles + 8 } := by
  rw [incPair, add_one_eq_ofNat]
  exact retireSetReg16_eq s r _ 1 8

theorem decPair_eq (r : Reg16) (s : State) : decPair r s =
    .next { s.setReg16 r (BitVec.ofNat 16 ((s.reg16 r).toNat + 65535)) with pc := s.pc + 1, cycles := s.cycles + 8 } := by
  rw [decPair, sub_one_eq_ofNat]
  exact retireSetReg16_eq s r _ 1 8

/-- R302: HL and the flags, both from the old HL; `ADD HL,HL` reads it twice. -/
theorem addHl_eq (r : Reg16) (s : State) : addHl r s =
    .next { s.setReg16 .hl (BitVec.ofNat 16 (s.hl.toNat + (s.reg16 r).toNat)) with
      f := flagByte (s.f.getLsbD 7) false (decide (s.hl.toNat % 4096 + (s.reg16 r).toNat % 4096 > 4095))
        (decide (s.hl.toNat + (s.reg16 r).toNat > 65535))
      pc := s.pc + 1, cycles := s.cycles + 8 } := by
  have value : s.hl + s.reg16 r = BitVec.ofNat 16 (s.hl.toNat + (s.reg16 r).toNat) := BitVec.eq_of_toNat_eq rfl
  rw [addHl, value, addHlFlags_eq]
  exact retireSetReg16SetFlags_eq s .hl _ _ 1 8

/-- Settles O30: each row is `incPair`, `decPair` or `addHl` of its pair. -/
theorem pairArithmetic : Obligations.PairArithmetic := by
  intro nn row hrow s
  obtain ⟨encodeInc, encodeDec, encodeAdd⟩ := by simpa only [Prod.mk.injEq] using encode_pairArithmetic nn row hrow
  obtain ⟨execInc, execDec, execAdd⟩ := by simpa only [Prod.mk.injEq] using exec_pairArithmetic nn row hrow
  rw [execInc, execDec, execAdd]
  exact ⟨encodeInc, encodeDec, encodeAdd, incPair_eq row.2 s, decPair_eq row.2 s, addHl_eq row.2 s⟩

/-! ## ADD SP,e and LD HL,SP+e -/

theorem exec_add_sp_e_eq (e : Byte) (s : State) : exec_add_sp_e e s = .next { s with
    sp := BitVec.ofInt 16 (s.sp.toNat + e.toInt)
    f := flagByte false false (decide (s.sp.toNat % 16 + e.toNat % 16 > 15)) (decide (s.sp.toNat % 256 + e.toNat > 255))
    pc := s.pc + 2, cycles := s.cycles + 16 } := by
  rw [exec_add_sp_e, add_sext16, spPlusFlags_eq]
  exact retireSetReg16SetFlags_eq s .sp _ _ 2 16

theorem exec_ld_hl_spE_eq (e : Byte) (s : State) : exec_ld_hl_spE e s =
    .next { s.setReg16 .hl (BitVec.ofInt 16 (s.sp.toNat + e.toInt)) with
      f := flagByte false false (decide (s.sp.toNat % 16 + e.toNat % 16 > 15)) (decide (s.sp.toNat % 256 + e.toNat > 255))
      pc := s.pc + 2, cycles := s.cycles + 12 } := by
  rw [exec_ld_hl_spE, add_sext16, spPlusFlags_eq]
  exact retireSetReg16SetFlags_eq s .hl _ _ 2 12

/-- Settles O31: the displacement is signed in the sum and unsigned in the flags. -/
theorem stackPointerSums : Obligations.StackPointerSums := fun e s =>
  ⟨rfl, rfl, exec_add_sp_e_eq e s, exec_ld_hl_spE_eq e s⟩

end Sys2Proof.Machine
end

section
/-! PROOFS. The rotates, the shifts and the bit instructions (43_rotate_shift_bit.md R319 to R345). -/

namespace Sys2Proof.Machine

open Sys2Proof.Rows

/-! ## One bit of a byte, as a number -/

theorem getLsbD_toNat (v : Byte) (i : Nat) : (v.getLsbD i).toNat = v.toNat / 2 ^ i % 2 := Nat.toNat_testBit v.toNat i

theorem getLsbD_eq_decide (v : Byte) (i : Nat) : v.getLsbD i = decide (v.toNat / 2 ^ i % 2 = 1) :=
  Nat.testBit_eq_decide_div_mod_eq

theorem topBit_toNat (v : Byte) : (v.getLsbD 7).toNat = v.toNat / 128 := by
  rw [getLsbD_toNat]
  omega

theorem lowBit_toNat (v : Byte) : (v.getLsbD 0).toNat = v.toNat % 2 := by
  rw [getLsbD_toNat, Nat.pow_zero, Nat.div_one]

theorem bit0_toNat (c : Bool) : (bit0 c).toNat = c.toNat := by cases c <;> rfl

theorem bit7_toNat (c : Bool) : (bit7 c).toNat = 128 * c.toNat := by cases c <;> rfl

/-- SRA keeps bit 7 by a mask (R336). -/
theorem and_topBit (v : Byte) : v &&& 0x80#8 = bit7 (v.getLsbD 7) := BitVec.and_twoPow v 7

/-! ## The rotates and shifts on numbers -/

/-- A byte moved up leaves its low bits free, so an OR into them is a sum. -/
theorem shiftLeft_or_toNat (v : Byte) {low : Byte} {k m : Nat} (hkm : k + m = 8) (hlow : low.toNat < 2 ^ k) :
    (v <<< k ||| low).toNat = 2 ^ k * (v.toNat % 2 ^ m) + low.toNat := by
  have kept : v.toNat * 2 ^ k % 2 ^ 8 = 2 ^ k * (v.toNat % 2 ^ m) := by
    have width : 2 ^ 8 = 2 ^ k * 2 ^ m := by rw [← Nat.pow_add, hkm]
    rw [width, Nat.mul_comm, Nat.mul_mod_mul_left]
  rw [BitVec.toNat_or, BitVec.toNat_shiftLeft, Nat.shiftLeft_eq, kept, Nat.two_pow_add_eq_or_of_lt hlow]

theorem shiftLeft_or_bit0_toNat (v : Byte) (c : Bool) : (v <<< 1 ||| bit0 c).toNat = (2 * v.toNat + c.toNat) % 256 := by
  have hc := c.toNat_le
  rw [shiftLeft_or_toNat v (m := 7) rfl (by rw [bit0_toNat]; omega), bit0_toNat]
  omega

theorem shiftRight_or_bit7_toNat (v : Byte) (c : Bool) : (v >>> 1 ||| bit7 c).toNat = v.toNat / 2 + 128 * c.toNat := by
  have low : v.toNat / 2 < 2 ^ 7 := by omega
  rw [BitVec.toNat_or, bit7_toNat, Nat.or_comm, Nat.add_comm]
  exact (Nat.two_pow_add_eq_or_of_lt low c.toNat).symm

/-- Each rotate and shift of R320 to R339 as the number it gives. -/
theorem rotValue_toNat (op : RotOp) (v : Byte) (c : Bool) : (rotValue op v c).toNat = rotated v.toNat c.toNat op := by
  cases op
  case rlc =>
    rw [rotated, ← topBit_toNat]
    exact shiftLeft_or_bit0_toNat v (v.getLsbD 7)
  case rrc =>
    rw [rotated, ← lowBit_toNat]
    exact shiftRight_or_bit7_toNat v (v.getLsbD 0)
  case rl => exact shiftLeft_or_bit0_toNat v c
  case rr => exact shiftRight_or_bit7_toNat v c
  case sla =>
    change (v <<< 1).toNat = 2 * v.toNat % 256
    rw [BitVec.toNat_shiftLeft, Nat.shiftLeft_eq, Nat.mul_comm]
  case sra =>
    change (v >>> 1 ||| (v &&& 0x80#8)).toNat = v.toNat / 2 + 128 * (v.toNat / 128)
    rw [and_topBit, shiftRight_or_bit7_toNat, topBit_toNat]
  case swap =>
    have high : (v >>> 4).toNat = v.toNat / 16 := by rw [BitVec.toNat_ushiftRight, Nat.shiftRight_eq_div_pow]
    change (v <<< 4 ||| v >>> 4).toNat = 16 * (v.toNat % 16) + v.toNat / 16
    rw [shiftLeft_or_toNat v (m := 4) rfl (by omega), high]
    rfl
  case srl => exact BitVec.toNat_ushiftRight v 1

theorem rotValue_eq (op : RotOp) (v : Byte) (c : Bool) : rotValue op v c = BitVec.ofNat 8 (rotated v.toNat c.toNat op) := by
  rw [← rotValue_toNat, BitVec.ofNat_toNat, BitVec.setWidth_eq]

theorem rotValue_beq_zero (op : RotOp) (v : Byte) (c : Bool) :
    (rotValue op v c == 0x00#8) = decide (rotated v.toNat c.toNat op = 0) := by
  rw [beq_eq_decide, ← rotValue_toNat]
  exact decide_eq_decide.mpr BitVec.toNat_inj.symm

/-- The bit moved out is bit 7 or bit 0 of the operand, and none for SWAP. -/
theorem rotCarry_eq (op : RotOp) (v : Byte) : rotCarry op v = rotatedOut v.toNat op := by
  have top : v.getLsbD 7 = decide (v.toNat / 128 = 1) := by
    simp only [← topBit_toNat, Bool.toNat_eq_one, Bool.decide_eq_true]
  have low : v.getLsbD 0 = decide (v.toNat % 2 = 1) := by
    simp only [← lowBit_toNat, Bool.toNat_eq_one, Bool.decide_eq_true]
  cases op
  case rlc | rl | sla => exact top
  case rrc | rr | sra | srl => exact low
  case swap => rfl

theorem aluRot_eq (op : RotOp) (v : Byte) (c : Bool) : aluRot op v c =
    { value := BitVec.ofNat 8 (rotated v.toNat c.toNat op)
      flags :=
        { z := decide (rotated v.toNat c.toNat op = 0), n := false, h := false, c := rotatedOut v.toNat op } } := by
  rw [aluRot, rotValue_beq_zero, rotValue_eq, rotCarry_eq]

theorem aluRotA_eq (op : RotOp) (v : Byte) (c : Bool) : aluRotA op v c =
    { value := BitVec.ofNat 8 (rotated v.toNat c.toNat op)
      flags := { z := false, n := false, h := false, c := rotatedOut v.toNat op } } := by
  rw [aluRotA, rotValue_eq, rotCarry_eq]

/-! ## RLCA, RRCA, RLA and RRA -/

theorem encode_accumulatorRotates : ∀ row ∈ accumulatorRotates, encode row.1 = [byte (0x07 + 8 * rotCode row.2)] := by decide

theorem exec_accumulatorRotates : ∀ row ∈ accumulatorRotates, exec row.1 = rotA row.2 := List.map_inj_left.mp rfl

theorem rotA_eq (op : RotOp) (s : State) : rotA op s = .next { s with
    a := BitVec.ofNat 8 (rotated s.a.toNat (carry s) op), f := flagByte false false false (rotatedOut s.a.toNat op)
    pc := s.pc + 1, cycles := s.cycles + 4 } := by
  rw [rotA, aluRotA_eq]
  exact aluTo_eq _ 1 4 s

/-- Settles O32: each row is `rotA` of its kind. -/
theorem accumulatorRotates : Obligations.AccumulatorRotates := by
  intro row hrow s
  rw [exec_accumulatorRotates row hrow]
  exact ⟨encode_accumulatorRotates row hrow, rotA_eq row.2 s⟩

/-! ## The CB operand (R319) -/

@[simp] theorem writeLoc_pc (s : State) (loc : Loc8) (v : Byte) : (writeLoc s loc v).pc = s.pc := by
  cases loc
  case reg r => exact setReg_pc s r v
  case indHl => exact memWrite_pc s s.hl v

@[simp] theorem writeLoc_cycles (s : State) (loc : Loc8) (v : Byte) : (writeLoc s loc v).cycles = s.cycles := by
  cases loc
  case reg r => exact setReg_cycles s r v
  case indHl => exact memWrite_cycles s s.hl v

theorem rmwCycles_eq (loc : Loc8) : rmwCycles loc = if loc = .indHl then 16 else 8 := by cases loc <;> rfl

theorem bitCycles_eq (loc : Loc8) : bitCycles loc = if loc = .indHl then 12 else 8 := by cases loc <;> rfl

theorem retireWriteLoc_eq (s : State) (loc : Loc8) (v : Byte) :
    retire (rmwCycles loc) (advance 2 (writeLoc s loc v)) = .next { writeLoc s loc v with
      pc := s.pc + 2, cycles := s.cycles + (if loc = .indHl then 16 else 8) } := by
  rw [← rmwCycles_eq]
  exact retireAdvance_eq (writeLoc_pc s loc v) (writeLoc_cycles s loc v) 2 _

/-- A row of a CB table: its bytes and its operation are those of its fields x, y and z (R149); `code` numbers the y of its table. -/
def CbRow {α : Type} (x : Nat) (code : α → Nat) (run : α → Loc8 → State → Result) (row : Instr × α × Loc8) : Prop :=
  (encode row.1, exec row.1) = (cbBytes x (code row.2.1) row.2.2, run row.2.1 row.2.2)

theorem cbRotates_cbRow : ∀ row ∈ cbRotates, CbRow 0 rotCode rotLoc row := List.map_inj_left.mp rfl
theorem cbShifts_cbRow : ∀ row ∈ cbShifts, CbRow 0 rotCode rotLoc row := List.map_inj_left.mp rfl
theorem bitForms_cbRow : ∀ row ∈ bitForms, CbRow 1 id bitBit row := List.map_inj_left.mp rfl
theorem resForms_cbRow : ∀ row ∈ resForms, CbRow 2 id resBit row := List.map_inj_left.mp rfl
theorem setForms_cbRow : ∀ row ∈ setForms, CbRow 3 id setBit row := List.map_inj_left.mp rfl

section Row

variable {α : Type} {x : Nat} {code : α → Nat} {run : α → Loc8 → State → Result} {row : Instr × α × Loc8}

theorem CbRow.encode_eq (hrow : CbRow x code run row) : encode row.1 = cbBytes x (code row.2.1) row.2.2 :=
  congrArg Prod.fst hrow

theorem CbRow.exec_eq (hrow : CbRow x code run row) : exec row.1 = run row.2.1 row.2.2 := congrArg Prod.snd hrow

end Row

/-! ## The CB rotates and shifts -/

theorem rotLoc_eq (op : RotOp) (loc : Loc8) (s : State) : rotLoc op loc s =
    .next { writeLoc s loc (BitVec.ofNat 8 (rotated (readLoc s loc).toNat (carry s) op)) with
      f := flagByte (decide (rotated (readLoc s loc).toNat (carry s) op = 0)) false false
        (rotatedOut (readLoc s loc).toNat op)
      pc := s.pc + 2, cycles := s.cycles + (if loc = .indHl then 16 else 8) } := by
  rw [rotLoc, aluRot_eq, ← rmwCycles_eq]
  exact retireSetFlags_eq (writeLoc_pc s loc _) (writeLoc_cycles s loc _) _ 2 _

/-- Settles O33: each row is `rotLoc` of its kind and operand. -/
theorem cbRotates : Obligations.CbRotates := fun row hrow s =>
  ⟨(cbRotates_cbRow row hrow).encode_eq, (cbRotates_cbRow row hrow).exec_eq ▸ rotLoc_eq row.2.1 row.2.2 s⟩

/-- Settles O34: each row is `rotLoc` of its kind and operand. -/
theorem cbShifts : Obligations.CbShifts := fun row hrow s =>
  ⟨(cbShifts_cbRow row hrow).encode_eq, (cbShifts_cbRow row hrow).exec_eq ▸ rotLoc_eq row.2.1 row.2.2 s⟩

/-! ## BIT, RES and SET -/

/-- BIT's Z is the complement of the tested bit (R340). -/
theorem bitFlags_eq (bit : Nat) (v : Byte) (old : Flags) : bitFlags bit v old =
    { z := decide (v.toNat / 2 ^ bit % 2 = 0), n := false, h := true, c := old.c } := by
  simp only [bitFlags, getLsbD_eq_decide, ← decide_not, Nat.mod_two_not_eq_one]

theorem bitBit_eq (bit : Nat) (loc : Loc8) (s : State) : bitBit bit loc s = .next { s with
    f := flagByte (decide ((readLoc s loc).toNat / 2 ^ bit % 2 = 0)) false true (s.f.getLsbD 4)
    pc := s.pc + 2, cycles := s.cycles + (if loc = .indHl then 12 else 8) } := by
  rw [bitBit, bitFlags_eq, ← bitCycles_eq]
  exact retireSetFlags_eq rfl rfl _ 2 _

/-- The mask of RES and SET has the one bit. -/
theorem getLsbD_bitMask {j : Nat} (hj : j < 8) (bit : Nat) : (0x01#8 <<< bit).getLsbD j = decide (j = bit) := by
  change (BitVec.twoPow 8 bit).getLsbD j = _
  rw [BitVec.getLsbD_twoPow, ← Bool.decide_and]
  exact decide_eq_decide.mpr (by omega)

theorem getLsbD_resValue {j : Nat} (hj : j < 8) (bit : Nat) (v : Byte) :
    (resValue bit v).getLsbD j = if j = bit then false else v.getLsbD j := by
  rw [resValue, BitVec.getLsbD_and, BitVec.getLsbD_not, getLsbD_bitMask hj, decide_eq_true hj]
  by_cases changed : j = bit <;> simp [changed]

theorem getLsbD_setValue {j : Nat} (hj : j < 8) (bit : Nat) (v : Byte) :
    (setValue bit v).getLsbD j = if j = bit then true else v.getLsbD j := by
  rw [setValue, BitVec.getLsbD_or, getLsbD_bitMask hj]
  by_cases changed : j = bit <;> simp [changed]

/-- Settles O35: each row is `bitBit`, `resBit` or `setBit` of its bit and operand. -/
theorem bitInstructions : Obligations.BitInstructions := by
  refine ⟨fun row hrow s => ?bit, fun row hrow s => ?res, fun row hrow s => ?set⟩
  case bit =>
    have form := bitForms_cbRow row hrow
    exact ⟨form.encode_eq, form.exec_eq ▸ bitBit_eq row.2.1 row.2.2 s⟩
  case res =>
    have form := resForms_cbRow row hrow
    exact ⟨form.encode_eq, _, fun _ hj => getLsbD_resValue hj row.2.1 (readLoc s row.2.2),
      form.exec_eq ▸ retireWriteLoc_eq s row.2.2 _⟩
  case set =>
    have form := setForms_cbRow row hrow
    exact ⟨form.encode_eq, _, fun _ hj => getLsbD_setValue hj row.2.1 (readLoc s row.2.2),
      form.exec_eq ▸ retireWriteLoc_eq s row.2.2 _⟩

end Sys2Proof.Machine
end

section
/-! PROOFS. Jumps, calls, restarts and returns (44_control.md R359 to R370). -/

namespace Sys2Proof.Machine

open Sys2Proof.Rows

/-! ## The conditional instructions (R359): each is its operation with its condition -/

/-- The four instructions of a row of `conditions`, JP, JR, CALL and RET, run in `s` as their operations: all taken, or none. -/
structure RunAs (nn : Word) (e : Byte) (instrs : Instr × Instr × Instr × Instr) (s : State) (taken : Bool) : Prop where
  jump : exec instrs.1 s = jumpAbs taken nn 16 12 s
  relative : exec instrs.2.1 s = jumpRel taken e 12 8 s
  call : exec instrs.2.2.1 s = callAbs taken nn 24 12 s
  ret : exec instrs.2.2.2 s = returnIf taken 20 8 s

/-- Each row stands for one condition: `condHolds` is what the row says of F. -/
theorem conditions_condHolds (nn : Word) (e : Byte) (s : State) : ∀ row ∈ conditions nn e,
    ∃ cc, (condHolds s cc = true ↔ row.2.2 s) ∧ RunAs nn e row.1 s (condHolds s cc) := by
  intro row hrow
  obtain rfl | rfl | rfl | rfl := by simpa only [conditions, List.mem_cons, List.not_mem_nil, or_false] using hrow
  · exact ⟨.nz, iff_of_eq (Bool.not_eq_true' _), rfl, rfl, rfl, rfl⟩
  · exact ⟨.z, Iff.rfl, rfl, rfl, rfl, rfl⟩
  · exact ⟨.nc, iff_of_eq (Bool.not_eq_true' _), rfl, rfl, rfl, rfl⟩
  · exact ⟨.c, Iff.rfl, rfl, rfl, rfl, rfl⟩

section Conditional

variable {nn : Word} {e : Byte} {row : (Instr × Instr × Instr × Instr) × Nat × (State → Prop)} {s : State}

theorem conditions_taken (hrow : row ∈ conditions nn e) (holds : row.2.2 s) : RunAs nn e row.1 s true := by
  obtain ⟨cc, cond, run⟩ := conditions_condHolds nn e s row hrow
  exact cond.mpr holds ▸ run

theorem conditions_notTaken (hrow : row ∈ conditions nn e) (fails : ¬ row.2.2 s) : RunAs nn e row.1 s false := by
  obtain ⟨cc, cond, run⟩ := conditions_condHolds nn e s row hrow
  exact Bool.eq_false_iff.mpr (mt cond.mp fails) ▸ run

end Conditional

/-! ## Jumps to an address -/

theorem jumpAbs_true (nn : Word) (cyc cycNot : Nat) (s : State) :
    jumpAbs true nn cyc cycNot s = .next { s with pc := nn, cycles := s.cycles + cyc } := rfl

theorem jumpAbs_false (nn : Word) (cycTaken cyc : Nat) (s : State) :
    jumpAbs false nn cycTaken cyc s = .next { s with pc := s.pc + 3, cycles := s.cycles + cyc } := rfl

theorem encode_conditionalJumps (nn : Word) (e : Byte) : ∀ row ∈ conditions nn e,
    encode row.1.1 = [byte (0xC2 + 8 * row.2.1), lo nn, hi nn] := List.map_inj_left.mp rfl

/-- Settles O36: JP nn is the taken `jumpAbs`, and JP cc,nn is taken exactly if its condition holds. -/
theorem absoluteJumps : Obligations.AbsoluteJumps :=
  ⟨fun nn s => ⟨rfl, jumpAbs_true nn 16 12 s⟩, fun _ => ⟨rfl, rfl⟩, fun nn e row hrow s =>
    ⟨encode_conditionalJumps nn e row hrow,
      fun holds => (conditions_taken hrow holds).jump.trans (jumpAbs_true nn 16 12 s),
      fun fails => (conditions_notTaken hrow fails).jump.trans (jumpAbs_false nn 16 12 s)⟩⟩

/-! ## Jumps by a displacement -/

/-- The displacement of JR counts from the address after the two bytes (R363). -/
theorem relativeTarget_eq (pc : Word) (e : Byte) : pc + 2 + sext16 e = BitVec.ofInt 16 (pc.toNat + 2 + e.toInt) := by
  rw [add_right_comm, add_right_comm (pc.toNat : Int), BitVec.ofInt_add, ← add_sext16]
  rfl

theorem jumpRel_true (e : Byte) (cyc cycNot : Nat) (s : State) : jumpRel true e cyc cycNot s =
    .next { s with pc := BitVec.ofInt 16 (s.pc.toNat + 2 + e.toInt), cycles := s.cycles + cyc } := by
  rw [← relativeTarget_eq]
  rfl

theorem jumpRel_false (e : Byte) (cycTaken cyc : Nat) (s : State) :
    jumpRel false e cycTaken cyc s = .next { s with pc := s.pc + 2, cycles := s.cycles + cyc } := rfl

theorem encode_conditionalRelativeJumps (nn : Word) (e : Byte) : ∀ row ∈ conditions nn e,
    encode row.1.2.1 = [byte (0x20 + 8 * row.2.1), e] := List.map_inj_left.mp rfl

/-- Settles O37: JR e is the taken `jumpRel`, and JR cc,e is taken exactly if its condition holds. -/
theorem relativeJumps : Obligations.RelativeJumps :=
  ⟨fun e s => ⟨rfl, jumpRel_true e 12 8 s⟩, fun nn e row hrow s =>
    ⟨encode_conditionalRelativeJumps nn e row hrow,
      fun holds => (conditions_taken hrow holds).relative.trans (jumpRel_true e 12 8 s),
      fun fails => (conditions_notTaken hrow fails).relative.trans (jumpRel_false e 12 8 s)⟩⟩

/-! ## Calls and restarts -/

/-- The push leaves the cycle count and PC, so a call's end is on the count before it. -/
theorem retirePushed_eq (s : State) (w target : Word) (cyc : Nat) : retire cyc { push16 w s with pc := target } =
    .next { pushed s w with pc := target, cycles := s.cycles + cyc } := by
  rw [← push16_eq_pushed, ← push16_cycles w s]
  rfl

theorem callAbs_true (nn : Word) (cyc cycNot : Nat) (s : State) : callAbs true nn cyc cycNot s =
    .next { pushed s (s.pc + 3) with pc := nn, cycles := s.cycles + cyc } := retirePushed_eq s (s.pc + 3) nn cyc

theorem callAbs_false (nn : Word) (cycTaken cyc : Nat) (s : State) :
    callAbs false nn cycTaken cyc s = .next { s with pc := s.pc + 3, cycles := s.cycles + cyc } := rfl

theorem encode_conditionalCalls (nn : Word) (e : Byte) : ∀ row ∈ conditions nn e,
    encode row.1.2.2.1 = [byte (0xC4 + 8 * row.2.1), lo nn, hi nn] := List.map_inj_left.mp rfl

theorem encode_restarts : ∀ row ∈ restarts, encode row.1 = [byte (0xC7 + row.2.toNat)] := by decide

theorem exec_restarts : ∀ row ∈ restarts, exec row.1 = restart row.2 := List.map_inj_left.mp rfl

theorem restart_eq (t : Word) (s : State) :
    restart t s = .next { pushed s (s.pc + 1) with pc := t, cycles := s.cycles + 16 } := retirePushed_eq s (s.pc + 1) t 16

/-- Settles O38: CALL nn is the taken `callAbs`, CALL cc,nn is taken exactly if its condition holds, RST t is `restart`. -/
theorem callsAndRestarts : Obligations.CallsAndRestarts := by
  refine ⟨fun nn s => ⟨rfl, callAbs_true nn 24 12 s⟩, fun nn e row hrow s => ?conditional, fun row hrow s => ?restart⟩
  case conditional =>
    exact ⟨encode_conditionalCalls nn e row hrow,
      fun holds => (conditions_taken hrow holds).call.trans (callAbs_true nn 24 12 s),
      fun fails => (conditions_notTaken hrow fails).call.trans (callAbs_false nn 24 12 s)⟩
  case restart =>
    rw [exec_restarts row hrow]
    exact ⟨encode_restarts row hrow, restart_eq row.2 s⟩

/-! ## Returns -/

theorem returnIf_true (cyc cycNot : Nat) (s : State) : returnIf true cyc cycNot s = .next { s with
    pc := word (memRead s (s.sp + 1)) (memRead s s.sp), sp := s.sp + 2, cycles := s.cycles + cyc } :=
  congrArg (fun t : State => retire cyc { t with pc := popValue s }) (popped_eq s)

theorem returnIf_false (cycTaken cyc : Nat) (s : State) :
    returnIf false cycTaken cyc s = .next { s with pc := s.pc + 1, cycles := s.cycles + cyc } := rfl

/-- R369: IME is set at once, and a delay of an earlier EI is over. -/
theorem exec_reti_eq (s : State) : exec_reti s = .next { s with
    pc := word (memRead s (s.sp + 1)) (memRead s s.sp), sp := s.sp + 2, ime := true, eiPending := false
    cycles := s.cycles + 16 } :=
  congrArg (fun t : State => retire 16 { t with pc := popValue s, ime := true, eiPending := false }) (popped_eq s)

theorem encode_conditionalReturns (nn : Word) (e : Byte) : ∀ row ∈ conditions nn e,
    encode row.1.2.2.2 = [byte (0xC0 + 8 * row.2.1)] := List.map_inj_left.mp rfl

/-- Settles O39: RET is the taken `returnIf`, and RET cc is taken exactly if its condition holds. -/
theorem returns : Obligations.Returns :=
  ⟨fun s => ⟨rfl, rfl, returnIf_true 16 8 s, exec_reti_eq s⟩, fun nn e row hrow s =>
    ⟨encode_conditionalReturns nn e row hrow,
      fun holds => (conditions_taken hrow holds).ret.trans (returnIf_true 20 8 s),
      fun fails => (conditions_notTaken hrow fails).ret.trans (returnIf_false 20 8 s)⟩⟩

end Sys2Proof.Machine
end

section
/-! PROOFS. The CB prefix, the undefined opcodes and the system instructions (45_system.md R390 to R396). -/

namespace Sys2Proof.Machine

open Sys2Proof.Rows

/-! ## The CB prefix -/

/-- The map's row (R149) and the fields x, y and z (R145) select the same operation: it is compared digit pair by digit pair, as a
function of the state. -/
theorem exec_decodeCb (b : Byte) : exec (decodeCb b) = execCbByte b := by
  have digits : ∀ i ∈ List.finRange 16,
      (List.finRange 16).map (fun j => exec (decodeCb (BitVec.ofNat 8 (16 * i.val + j.val)))) =
        (List.finRange 16).map (fun j => execCbByte (BitVec.ofNat 8 (16 * i.val + j.val))) := List.map_inj_left.mp rfl
  revert b
  exact byte_forall fun i j => List.map_inj_left.mp (digits i (List.mem_finRange i)) j (List.mem_finRange j)

/-- Each of the four groups of field x ends in `retire`. -/
theorem execCbByte_next (b : Byte) (s : State) : ∃ t, execCbByte b s = .next t := by
  unfold execCbByte
  split <;> exact ⟨_, rfl⟩

/-- Settles O5: the map's row and the fields of the byte select the same operation, which retires. -/
theorem prefixRunsTheCbMap : Obligations.PrefixRunsTheCbMap := fun b2 s =>
  ⟨(congrFun (exec_decodeCb b2) s).symm, execCbByte_next b2 s⟩

/-! ## The undefined opcodes -/

/-- No cycle passes: the clock is below its mode's length, so no mode ends. -/
theorem ppuStep_zero {s : State} (h : s.modeClock < modeLimit s.ppuMode) : ppuStep 0 s = s := by
  unfold ppuStep
  split
  · exact if_neg (Nat.not_le.mpr h)
  · rfl

theorem divTick_zero {s : State} (h : s.divAcc < Config.divPeriod) : divTick 0 s = s := by
  simp [divTick, Nat.div_eq_of_lt h, Nat.mod_eq_of_lt h]

theorem timaTick_zero {s : State} (h : s.tac.getLsbD 2 = true → s.timaAcc < timaThreshold s.tac) : timaTick 0 s = s := by
  unfold timaTick
  split
  case isTrue on =>
    rw [Nat.add_zero, Nat.div_eq_of_lt (h on), Nat.mod_eq_of_lt (h on)]
    rfl
  case isFalse => rfl

/-- A step of no cycles leaves the devices as they are. -/
theorem tickDevices_zero {s : State} (h : DeviceLegal s) (hc : s.cycles = 0) : tickDevices s = s := by
  rw [tickDevices, hc, ppuStep_zero h.modeClockLow, timerTick, divTick_zero h.divAccLow, timaTick_zero h.timaAccLow]

theorem step_faulted {s : State} {k : ExceptionKind} {pc : Word} {b : Byte} (he : s.hostEvents = [])
    (hm : s.cpuMode = .faulted k pc b) : step s = .fault (.decodeErrorFaulted pc b) := by
  rw [step_noEvents he, systemStep, cpuStart_faulted hm]

/-- The undefined opcode takes no cycles and is past the latch, so the machine is left as it faulted. -/
theorem step_undefined {s : State} (hl : Legal s) (hs : atFetch s) (hu : isUndefinedByte (memRead s s.pc) = true) :
    step s = .next { s with cpuMode := .faulted .decodeError s.pc (memRead s s.pc), cycles := 0 } := by
  obtain ⟨he, hm, hd⟩ := hs
  have fetched : fetchInstr s = .undefined (memRead s s.pc) := fetchInstr_eq_undefined.mpr ⟨hu, rfl⟩
  have finished (b : Byte) : finishStep (.undefined b) (exec (.undefined b) { s with cycles := 0 }) =
      .next (tickDevices { s with cpuMode := .faulted .decodeError s.pc b, cycles := 0 }) := rfl
  rw [step_running he hm, checkInterrupts_none (s := { s with cycles := 0 }) hd, fetchInstr_atCycles, fetched, finished]
  exact congrArg Host.Outcome.next (tickDevices_zero { hl.device with } rfl)

/-- Settles O41: the step that fetches the byte, then the one that finds the machine Faulted. -/
theorem undefinedOpcodeFaults : Obligations.UndefinedOpcodeFaults :=
  ⟨fun _ _ => rfl, fun _ hl hs hu => ⟨step_undefined hl hs hu, step_faulted hs.1 rfl⟩⟩

/-! ## NOP, HALT, STOP, DI and EI -/

/-- Settles O40: each retires past its bytes after the one change of its own. -/
theorem systemInstructions : Obligations.SystemInstructions := fun _ _ =>
  ⟨rfl, rfl, rfl, rfl, rfl, retireAdvance_eq rfl rfl 1 4, retireAdvance_eq rfl rfl 1 4, retireAdvance_eq rfl rfl 2 4,
    retireAdvance_eq rfl rfl 1 4, retireAdvance_eq rfl rfl 1 4⟩

end Sys2Proof.Machine
end

section
/-! PROOFS. What stops a step, what a step runs, and the steps of a Halted and a Stopped machine (60_exceptions.md R420, R421,
R440 to R442, R510, R525, R530). -/

namespace Sys2Proof.Machine

open Sys2Proof.Rows

/-! ## Stops -/

/-- An instruction completes in every state, the undefined opcodes too (log 6). -/
theorem exec_next (i : Instr) (s : State) : ∃ t, exec i s = .next t := by
  by_cases undef : ∃ b, i = .undefined b
  case pos =>
    obtain ⟨b, rfl⟩ := undef
    exact ⟨_, rfl⟩
  case neg =>
    have anyState : OpsKeep fun _ => True := by constructor <;> intros <;> trivial
    obtain ⟨t, ht, -⟩ := anyState.exec i (fun b hb => undef ⟨b, hb⟩) (s := s) trivial
    exact ⟨t, ht⟩

theorem finishStep_exec_next (i : Instr) (s : State) : ∃ t, finishStep i (exec i s) = .next t := by
  obtain ⟨t, ht⟩ := exec_next i s
  exact ⟨_, congrArg (finishStep i) ht⟩

/-- What a system step answers in each mode: the recorded fault of a Faulted machine, or a next state. -/
theorem systemStep_outcome (s : State) :
    (∃ k pc byte, s.cpuMode = .faulted k pc byte ∧ systemStep s = .fault (.decodeErrorFaulted pc byte)) ∨
    (∀ k pc byte, s.cpuMode ≠ .faulted k pc byte) ∧ ∃ t, systemStep s = .next t := by
  unfold systemStep
  cases hm : s.cpuMode with
  | faulted k pc byte => exact .inl ⟨k, pc, byte, rfl, by rw [cpuStart_faulted hm]⟩
  | running =>
    rw [cpuStart_running hm]
    exact .inr ⟨nofun, finishStep_exec_next _ _⟩
  | stopped =>
    rw [cpuStart_stopped hm]
    exact .inr ⟨nofun, _, rfl⟩
  | halted =>
    refine .inr ⟨nofun, ?_⟩
    cases hw : wakes s with
    | true =>
      rw [cpuStart_woken hm hw]
      exact finishStep_exec_next _ _
    | false =>
      rw [cpuStart_asleep hm hw]
      exact ⟨_, rfl⟩

theorem systemStep_fault_iff (s : State) (r : Fault) : systemStep s = .fault r ↔
    ∃ pc byte, s.cpuMode = .faulted .decodeError pc byte ∧ r = .decodeErrorFaulted pc byte := by
  obtain ⟨⟨⟩, pc, byte, hm, hs⟩ | ⟨hm, t, hs⟩ := systemStep_outcome s <;> rw [hs]
  · simp [hm, eq_comm]
  · simp [hm]

/-- Settles O7: no instruction stops, and a system step answers a fault in the Faulted mode alone. -/
theorem onlyAFaultedMachineStops : Obligations.OnlyAFaultedMachineStops := by
  refine ⟨exec_next, fun s => systemStep_fault_iff (applyHostEvents s), fun s r refused => ?_⟩
  unfold step at refused
  obtain ⟨_, _, _, -, hs⟩ | ⟨-, _, hs⟩ := systemStep_outcome (applyHostEvents s) <;> rw [hs] at refused <;> cases refused

/-! ## The instruction a step runs -/

/-- The cycle count that stands before a step is of no account (10_state.md R71). -/
theorem step_atCycles (s : State) (n : Nat) : step { s with cycles := n } = step s := by
  rw [step, applyHostEvents_atCycles, systemStep_atCycles, step]

theorem step_of_decode {s t : State} {i : Instr} {rest : List Byte} (hs : atFetch s)
    (hi : decode [memRead s s.pc, memRead s (s.pc + 1), memRead s (s.pc + 2)] = .ok (i, rest))
    (ht : exec i { s with cycles := 0 } = .next t) : step s = .next (tickDevices (eiLatch i t)) := by
  obtain ⟨noEvents, running, quiet⟩ := hs
  rw [step_running noEvents running, checkInterrupts_none (s := { s with cycles := 0 }) quiet, fetchInstr_atCycles,
    fetchInstr_of_decode hi, ht]
  rfl

/-- A batch of host events takes effect before the step, which then neither reads nor changes the batches after it. -/
theorem step_batch {s : State} {batch : List KeyEvent} {later : List (List KeyEvent)} (h : s.hostEvents = batch :: later) :
    step s = Result.withEvents later (step { batch.foldl applyKeyEvent s with hostEvents := [] }) := by
  have applied : applyHostEvents s = State.withEvents { batch.foldl applyKeyEvent s with hostEvents := [] } later :=
    (applyHostEvents_batch h).trans (foldEvents_withEvents later batch s)
  rw [step, applied, systemStep_withEvents, step_noEvents (s := { batch.foldl applyKeyEvent s with hostEvents := [] }) rfl]

/-- Settles O6: the fetch and the end of the step, the batch before it, and the count that no part of it reads. -/
theorem stepRunsTheDecodedInstruction : Obligations.StepRunsTheDecodedInstruction := by
  refine ⟨fun s t i rest hs _ hi ht => step_of_decode hs hi ht, ?batch, fun _ _ _ => ⟨rfl, rfl⟩, fun s n =>
    ⟨step_atCycles s n, rfl, fun _ => rfl, fun _ _ => rfl⟩⟩
  rintro s _ batch later h rfl
  rw [step_batch h]
  exact ⟨fun t ht => by rw [ht]; rfl, fun r hr => by rw [hr]; rfl⟩

/-! ## HALT and STOP -/

/-- The condition of `wake()` (R441), without the order of its tests. -/
theorem wakes_iff (s : State) : wakes s = true ↔
    if s.ime = true ∨ s.haltWakeNeedsIe = true then s.ieReg &&& s.ifReg ≠ 0#5 else s.ifReg ≠ 0#5 := by
  unfold wakes
  cases s.ime <;> cases s.haltWakeNeedsIe <;> simp

theorem wakes_of_shared {s : State} (h : s.ieReg &&& s.ifReg ≠ 0#5) : wakes s = true := by
  have requested : s.ifReg ≠ 0#5 := fun h0 => h (by simp [h0])
  rw [wakes_iff]
  split <;> assumption

theorem wakes_of_noRequest {s : State} (h : s.ifReg = 0#5) : wakes s = false := by
  rw [← Bool.not_eq_true, wakes_iff]
  simp [h]

section NoEvents

variable {s : State} (noEvents : s.hostEvents = [])
include noEvents

theorem step_stopped (hm : s.cpuMode = .stopped) : step s = .next (tickDevices { s with cycles := 4 }) := by
  rw [step_noEvents noEvents, systemStep, cpuStart_stopped hm]
  rfl

theorem step_asleep (hm : s.cpuMode = .halted) (hw : wakes s = false) :
    step s = .next (tickDevices { s with cycles := 4 }) := by
  rw [step_noEvents noEvents, systemStep, cpuStart_asleep hm hw]
  rfl

/-- The step that wakes the machine goes on as the step of a Running one (R441). -/
theorem step_woken (hm : s.cpuMode = .halted) (hw : wakes s = true) : step s = step { s with cpuMode := .running } := by
  rw [step_noEvents noEvents, systemStep, cpuStart_woken hm hw, step_running (s := { s with cpuMode := .running }) noEvents rfl]

end NoEvents

/-- Settles O44: the two heads of a step that idle and the one that wakes, by the condition of `wake()`. -/
theorem haltedAndStoppedSteps : Obligations.HaltedAndStoppedSteps := by
  refine fun s noEvents => ⟨step_stopped noEvents, fun halted => ⟨fun needsIe none => ?_, fun none => ?_, fun shared => ?_,
    fun ime free requested => ?_⟩⟩
  · exact step_asleep noEvents halted (by rw [← Bool.not_eq_true, wakes_iff, if_pos needsIe]; exact not_not_intro none)
  · exact step_asleep noEvents halted (wakes_of_noRequest none)
  · exact step_woken noEvents halted (wakes_of_shared shared)
  · exact step_woken noEvents halted ((wakes_iff s).mpr (by simpa [ime, free] using requested))

end Sys2Proof.Machine
end

section
/-! PROOFS. The host's key events (60_exceptions.md R525, 10_state.md R66). -/

namespace Sys2Proof.Machine

theorem wakeFromStop_eq (s : State) :
    wakeFromStop s = { s with cpuMode := if s.cpuMode = .stopped then .running else s.cpuMode } := by
  unfold wakeFromStop
  split <;> rfl

/-- A key-down as one whole next state. -/
theorem keyDown_eq (row : KeyRow) (k : Fin 4) (s : State) :
    keyDown row k s = { s.setRow row (s.row row &&& ~~~(1#4 <<< k.val)) with
      ifReg := if (s.row row).getLsbD k.val = true then s.ifReg ||| 0x10#5 else s.ifReg
      cpuMode := if s.cpuMode = .stopped then .running else s.cpuMode } := by
  rw [keyDown, wakeFromStop_eq]
  by_cases wasUp : (s.row row).getLsbD k.val = true
  · rw [if_pos wasUp, if_pos wasUp]
    cases row <;> rfl
  · rw [if_neg wasUp, if_neg wasUp]
    cases row <;> rfl

theorem row_setRow_same (s : State) (row : KeyRow) (v : BitVec 4) : (s.setRow row v).row row = v := by cases row <;> rfl

theorem row_setRow_other (s : State) (v : BitVec 4) : ∀ {row row' : KeyRow}, row' ≠ row →
    (s.setRow row v).row row' = s.row row'
  | .dir, .act, _ | .act, .dir, _ => rfl
  | .dir, .dir, h | .act, .act, h => absurd rfl h

theorem row_keyDown (row row' : KeyRow) (k : Fin 4) (s : State) :
    (keyDown row k s).row row' = (s.setRow row (s.row row &&& ~~~(1#4 <<< k.val))).row row' := by
  rw [keyDown_eq]
  cases row' <;> rfl

theorem getLsbD_keyMask (j : Nat) (k : Fin 4) : (1#4 <<< k.val).getLsbD j = decide (j = k.val) := by
  rw [← BitVec.twoPow_eq, BitVec.getLsbD_twoPow]
  simp [eq_comm]

/-- Settles O45: the row a key event leaves bit by bit, and a key-down as one whole state. -/
theorem keyEvents : Obligations.KeyEvents := by
  refine fun s row k => ⟨fun j hj => ?downBit, fun j hj => ?upBit, fun row' other => ⟨?downOther, ?upOther⟩, ?downIrq,
    ?downMode, ?downFrame, ?upFrame⟩
  case downBit =>
    rw [row_keyDown, row_setRow_same, BitVec.getLsbD_and, BitVec.getLsbD_not, getLsbD_keyMask]
    simp [hj, Bool.and_comm]
  case upBit => rw [keyUp, row_setRow_same, BitVec.getLsbD_or, getLsbD_keyMask, Bool.or_comm]
  case downOther => rw [row_keyDown, row_setRow_other s _ other]
  case upOther => exact row_setRow_other s _ other
  case downIrq => rw [keyDown_eq]
  case downMode => rw [keyDown_eq]
  case downFrame =>
    rw [keyDown_eq]
    cases row <;> rfl
  case upFrame => cases row <;> rfl

end Sys2Proof.Machine
end

section
/-! PROOFS. The timer (60_exceptions.md R450 to R452). -/

namespace Sys2Proof.Machine

theorem div_add_split {p : Nat} (hp : 0 < p) (x c : Nat) : (x + c) / p = x / p + (x % p + c) / p := by
  rw [← Nat.mul_add_div hp, ← Nat.add_assoc, Nat.div_add_mod]

theorem timaTick_off {s : State} (h : s.tac.getLsbD 2 = false) (cyc : Nat) : timaTick cyc s = s := by
  rw [timaTick, h, if_neg Bool.false_ne_true]

/-- The state with another accumulator toward TIMA. -/
def State.withTimaAcc (s : State) (n : Nat) : State := { s with timaAcc := n }

@[simp] theorem withTimaAcc_timaAcc (s : State) (n : Nat) : (s.withTimaAcc n).timaAcc = n := rfl

@[simp] theorem withTimaAcc_withTimaAcc (s : State) (m n : Nat) : (s.withTimaAcc m).withTimaAcc n = s.withTimaAcc n := rfl

/-- The increments of TIMA do not look at its accumulator. -/
theorem timaIncrements_withTimaAcc (n k : Nat) (s : State) :
    timaIncrements k (s.withTimaAcc n) = (timaIncrements k s).withTimaAcc n := by
  induction k generalizing s with
  | zero => rfl
  | succ k ih =>
    have once : timaIncrement (s.withTimaAcc n) = (timaIncrement s).withTimaAcc n := by
      unfold timaIncrement State.withTimaAcc
      dsimp only
      split <;> rfl
    rw [timaIncrements, once, ih, timaIncrements]

theorem timaTick_on {s : State} (h : s.tac.getLsbD 2 = true) (cyc : Nat) :
    timaTick cyc s = (timaIncrements ((s.timaAcc + cyc) / timaThreshold s.tac) s).withTimaAcc
      ((s.timaAcc + cyc) % timaThreshold s.tac) := by
  rw [timaTick, if_pos h, ← timaIncrements_withTimaAcc]
  rfl

/-! ## Any split -/

theorem timaIncrements_add (j k : Nat) (s : State) : timaIncrements (j + k) s = timaIncrements k (timaIncrements j s) := by
  induction j generalizing s with
  | zero => rw [Nat.zero_add, timaIncrements]
  | succ j ih => rw [Nat.succ_add, timaIncrements, ih, timaIncrements]

theorem divTick_add (c1 c2 : Nat) (s : State) : divTick (c1 + c2) s = divTick c2 (divTick c1 s) := by
  simp only [divTick, ← Nat.add_assoc, Nat.mod_add_mod, div_add_split (show 0 < Config.divPeriod by decide) (s.divAcc + c1),
    BitVec.ofNat_add, BitVec.add_assoc]

theorem timaTick_add (c1 c2 : Nat) (s : State) : timaTick (c1 + c2) s = timaTick c2 (timaTick c1 s) := by
  cases h : s.tac.getLsbD 2 with
  | false => rw [timaTick_off h, timaTick_off h, timaTick_off h]
  | true =>
    have kept : (timaTick c1 s).tac.getLsbD 2 = true := by rw [timaTick_tac, h]
    rw [timaTick_on kept, timaTick_tac, timaTick_on h, timaTick_on h]
    simp only [withTimaAcc_timaAcc, timaIncrements_withTimaAcc, withTimaAcc_withTimaAcc, ← Nat.add_assoc, Nat.mod_add_mod,
      div_add_split (timaThreshold_pos s.tac) (s.timaAcc + c1), timaIncrements_add]

theorem divTick_timaIncrements (cyc k : Nat) (s : State) :
    divTick cyc (timaIncrements k s) = timaIncrements k (divTick cyc s) := by
  induction k generalizing s with
  | zero => rfl
  | succ k ih =>
    have once : divTick cyc (timaIncrement s) = timaIncrement (divTick cyc s) := by
      unfold timaIncrement
      rw [divTick_tima]
      split <;> rfl
    rw [timaIncrements, ih, once, timaIncrements]

/-- The two halves of the timer do not touch each other. -/
theorem divTick_timaTick (c1 c2 : Nat) (s : State) : divTick c2 (timaTick c1 s) = timaTick c1 (divTick c2 s) := by
  cases h : s.tac.getLsbD 2 with
  | false => rw [timaTick_off h, timaTick_off (s := divTick c2 s) h]
  | true =>
    rw [timaTick_on h, timaTick_on (s := divTick c2 s) h, ← divTick_timaIncrements]
    rfl

theorem timerTick_add (c1 c2 : Nat) (s : State) : timerTick (c1 + c2) s = timerTick c2 (timerTick c1 s) := by
  simp only [timerTick, divTick_add, timaTick_add, divTick_timaTick]

/-! ## Counts -/

theorem timerTick_divAcc (cyc : Nat) (s : State) : (timerTick cyc s).divAcc = (s.divAcc + cyc) % 256 := by
  simp [timerTick, Config.divPeriod]

theorem timerTick_div_toNat (cyc : Nat) (s : State) :
    (timerTick cyc s).div.toNat = (s.div.toNat + (s.divAcc + cyc) / 256) % 256 := by
  simp [timerTick, divTick, Config.divPeriod]

theorem timaThreshold_of_rate {tac : BitVec 3} {period : Nat}
    (h : (tac.toNat % 4, period) ∈ [(0, 1024), (1, 16), (2, 64), (3, 256)]) : timaThreshold tac = period := by
  simp only [List.mem_cons, Prod.mk.injEq, List.not_mem_nil, or_false] at h
  obtain ⟨hr, rfl⟩ | ⟨hr, rfl⟩ | ⟨hr, rfl⟩ | ⟨hr, rfl⟩ := h <;> simp [timaThreshold, hr]

section Running

variable {s : State} (on : s.tac.getLsbD 2 = true) (cyc : Nat)
include on

theorem timerTick_timaAcc : (timerTick cyc s).timaAcc = (s.timaAcc + cyc) % timaThreshold s.tac := by
  rw [timerTick, timaTick_on (s := divTick cyc s) on]
  simp

theorem timerTick_quiet (h : s.timaAcc + cyc < timaThreshold s.tac) :
    (timerTick cyc s).tima = s.tima ∧ (timerTick cyc s).ifReg = s.ifReg := by
  have none : ((divTick cyc s).timaAcc + cyc) / timaThreshold (divTick cyc s).tac = 0 := Nat.div_eq_of_lt h
  rw [timerTick, timaTick_on (s := divTick cyc s) on, none]
  exact ⟨rfl, rfl⟩

/-- Over one period and below two there is one increment. -/
theorem timerTick_once (reached : timaThreshold s.tac ≤ s.timaAcc + cyc)
    (once : s.timaAcc + cyc < 2 * timaThreshold s.tac) : timerTick cyc s =
      (timaIncrement (divTick cyc s)).withTimaAcc ((s.timaAcc + cyc) % timaThreshold s.tac) := by
  have one : ((divTick cyc s).timaAcc + cyc) / timaThreshold (divTick cyc s).tac = 1 :=
    Nat.div_eq_of_lt_le (by simpa using reached) once
  rw [timerTick, timaTick_on (s := divTick cyc s) on, one]
  rfl

end Running

theorem timaIncrement_below {s : State} (h : s.tima ≠ 0xFF#8) : timaIncrement s = { s with tima := s.tima + 1 } := if_neg h

theorem timaIncrement_overflow {s : State} (h : s.tima = 0xFF#8) :
    timaIncrement s = { s with tima := s.tma, ifReg := s.ifReg ||| 0x04#5 } := if_pos h

/-- Settles O54: DIV for any count, and TIMA by the number of its increments: none, or one that counts or overflows. -/
theorem timerTicks : Obligations.TimerTicks := by
  refine fun s c => ⟨timerTick_divAcc c s, timerTick_div_toNat c s, fun off => ?disabled, fun period rate on => ?enabled⟩
  case disabled =>
    rw [timerTick, timaTick_off (s := divTick c s) off]
    exact ⟨rfl, rfl, rfl⟩
  case enabled =>
    obtain rfl := timaThreshold_of_rate rate
    refine ⟨timerTick_timaAcc on c, timerTick_quiet on c, fun reached once => ?_⟩
    rw [timerTick_once on c reached once]
    constructor <;> intro h
    · rw [timaIncrement_below (s := divTick c s) h]
      exact ⟨rfl, rfl⟩
    · rw [timaIncrement_overflow (s := divTick c s) h]
      exact ⟨rfl, rfl⟩

end Sys2Proof.Machine
end

section
/-! PROOFS. The mode machine of the pixel processor: its transitions as whole states, its loop to the end, and the cycles in any
split (60_exceptions.md R450, R460, R461, R463). -/

namespace Sys2Proof.Machine

/-! ## Transitions as whole states -/

section Transitions

variable {s : State}

theorem ppuTransition_oamScan (hm : s.ppuMode = .oamScan) :
    ppuTransition s = { s with ppuMode := .drawLine, modeClock := s.modeClock - 80 } := by
  rw [ppuTransition, hm]
  rfl

theorem ppuTransition_drawLine (hm : s.ppuMode = .drawLine) : ppuTransition s = { renderLine s.ly.toNat s with
    ppuMode := .hblank, modeClock := s.modeClock - 172
    ifReg := if s.statEn.getLsbD 0 = true then s.ifReg ||| 0x02#5 else s.ifReg } := by
  rw [ppuTransition, hm]
  by_cases requests : s.statEn.getLsbD 0 = true
  · rw [if_pos requests]
    exact if_pos requests
  · rw [if_neg requests]
    exact if_neg requests

/-- The requests of entering VBlank: the coincidence's, then VBlank, then LCDStat by STAT[4]. -/
theorem vblankRequests_eq (irq : BitVec 5) (entry edge : Prop) [Decidable entry] [Decidable edge] :
    (if entry then (if edge then irq ||| 0x02#5 else irq) ||| 0x01#5 ||| 0x02#5
      else (if edge then irq ||| 0x02#5 else irq) ||| 0x01#5) =
    if entry ∨ edge then irq ||| 0x03#5 else irq ||| 0x01#5 := by
  by_cases entry <;> by_cases edge <;> simp [*, BitVec.or_assoc]

variable (on : s.lcdc.getLsbD 7 = true)
include on

theorem ppuTransition_hblank (hm : s.ppuMode = .hblank) (hl : s.ly ≠ 143#8) : ppuTransition s = { s with
    ppuMode := .oamScan, modeClock := s.modeClock - 204, ly := s.ly + 1
    coincidence := decide (s.ly + 1 = s.lyc)
    ifReg := if s.ly + 1 = s.lyc ∧ s.coincidence = false ∧ s.statEn.getLsbD 3 = true then s.ifReg ||| 0x02#5
      else s.ifReg } := by
  have next : s.ly + 1 ≠ 144#8 := fun h => hl (add_right_cancel (b := 1#8) (c := 143#8) h)
  rw [ppuTransition, hm]
  dsimp only [leaveHblank]
  rw [coincidenceUpdate_eq, if_neg next]
  simp only [on, and_true]
  rfl

theorem ppuTransition_hblank_last (hm : s.ppuMode = .hblank) (hl : s.ly = 143#8) : ppuTransition s = { s with
    ppuMode := .vblank, modeClock := s.modeClock - 204, ly := 144#8
    coincidence := decide (144#8 = s.lyc)
    ifReg := if s.statEn.getLsbD 1 = true ∨ (144#8 = s.lyc ∧ s.coincidence = false ∧ s.statEn.getLsbD 3 = true)
      then s.ifReg ||| 0x03#5 else s.ifReg ||| 0x01#5 } := by
  have next : s.ly + 1 = 144#8 := congrArg (· + 1#8) hl
  rw [ppuTransition, hm, ← vblankRequests_eq]
  dsimp only [leaveHblank]
  rw [coincidenceUpdate_eq, if_pos next]
  dsimp only
  rw [next]
  simp only [on, and_true]
  by_cases entry : s.statEn.getLsbD 1 = true
  · rw [if_pos entry]
    exact if_pos entry
  · rw [if_neg entry]
    exact if_neg entry

theorem ppuTransition_vblank (hm : s.ppuMode = .vblank) (hl : s.ly.toNat < 153) : ppuTransition s = { s with
    modeClock := s.modeClock - 456, ly := s.ly + 1
    coincidence := decide (s.ly + 1 = s.lyc)
    ifReg := if s.ly + 1 = s.lyc ∧ s.coincidence = false ∧ s.statEn.getLsbD 3 = true then s.ifReg ||| 0x02#5
      else s.ifReg } := by
  rw [ppuTransition, hm]
  dsimp only [leaveVblank]
  rw [if_neg (by omega), coincidenceUpdate_eq]
  simp only [on, and_true]
  rfl

theorem ppuTransition_vblank_last (hm : s.ppuMode = .vblank) (hl : 153 ≤ s.ly.toNat) : ppuTransition s = { s with
    ppuMode := .oamScan, modeClock := s.modeClock - 456, ly := 0#8
    coincidence := decide (0#8 = s.lyc)
    ifReg := if 0#8 = s.lyc ∧ s.coincidence = false ∧ s.statEn.getLsbD 3 = true then s.ifReg ||| 0x02#5
      else s.ifReg } := by
  rw [ppuTransition, hm]
  dsimp only [leaveVblank]
  rw [if_pos (by omega), coincidenceUpdate_eq]
  simp only [on, and_true]
  rfl

end Transitions

/-! ## The loop to its end -/

/-- The transitions of R460 until the clock is below its mode's length. -/
def ppuRun (s : State) : State := ppuLoop (s.modeClock / 80 + 1) s

theorem ppuLoop_eq_ppuRun {fuel : Nat} {s : State} (h : s.modeClock < 80 * fuel) : ppuLoop fuel s = ppuRun s := by
  obtain ⟨extra, rfl⟩ := Nat.exists_eq_add_of_le (show s.modeClock / 80 + 1 ≤ fuel by omega)
  exact ppuLoop_fuel _ extra s (by omega)

theorem ppuRun_below {s : State} (h : s.modeClock < modeLimit s.ppuMode) : ppuRun s = s := if_neg (Nat.not_le.mpr h)

theorem ppuRun_reached {s : State} (h : modeLimit s.ppuMode ≤ s.modeClock) : ppuRun s = ppuRun (ppuTransition s) := by
  have := modeLimit_ge s.ppuMode
  rw [ppuRun, ppuLoop, if_pos h]
  exact ppuLoop_eq_ppuRun (by rw [ppuTransition_modeClock]; omega)

/-- The state with another count of cycles since its mode began. -/
def State.withClock (s : State) (n : Nat) : State := { s with modeClock := n }

theorem ppuStep_on {s : State} (on : s.lcdc.getLsbD 7 = true) (cyc : Nat) :
    ppuStep cyc s = ppuRun (s.withClock (s.modeClock + cyc)) := by
  rw [ppuStep, if_pos on]
  rfl

theorem ppuStep_off {s : State} (off : s.lcdc.getLsbD 7 = false) (cyc : Nat) : ppuStep cyc s = s := by
  rw [ppuStep, off, if_neg Bool.false_ne_true]

/-! ## Any split -/

/-- A transition looks at the clock only to take the mode's length off it. -/
theorem ppuTransition_withClock {s : State} (on : s.lcdc.getLsbD 7 = true) (n : Nat) :
    ppuTransition (s.withClock n) = (ppuTransition s).withClock (n - modeLimit s.ppuMode) := by
  have on' : (s.withClock n).lcdc.getLsbD 7 = true := on
  cases hm : s.ppuMode with
  | oamScan =>
    rw [ppuTransition_oamScan (s := s.withClock n) hm, ppuTransition_oamScan hm]
    rfl
  | drawLine =>
    rw [ppuTransition_drawLine (s := s.withClock n) hm, ppuTransition_drawLine hm]
    rfl
  | hblank =>
    by_cases hl : s.ly = 143#8
    · rw [ppuTransition_hblank_last on' hm hl, ppuTransition_hblank_last on hm hl]
      rfl
    · rw [ppuTransition_hblank on' hm hl, ppuTransition_hblank on hm hl]
      rfl
  | vblank =>
    by_cases hl : s.ly.toNat < 153
    · rw [ppuTransition_vblank on' hm hl, ppuTransition_vblank on hm hl]
      rfl
    · have hl := Nat.not_lt.mp hl
      rw [ppuTransition_vblank_last on' hm hl, ppuTransition_vblank_last on hm hl]
      rfl

/-- Cycles that come before the run are as good as cycles that come after it. -/
theorem ppuRun_later (c : Nat) {s : State} (on : s.lcdc.getLsbD 7 = true) :
    ppuRun (s.withClock (s.modeClock + c)) = ppuRun ((ppuRun s).withClock ((ppuRun s).modeClock + c)) := by
  induction hn : s.modeClock using Nat.strong_induction_on generalizing s with
  | h n ih =>
    subst hn
    by_cases reached : modeLimit s.ppuMode ≤ s.modeClock
    · have := modeLimit_ge s.ppuMode
      have before : ppuRun (s.withClock (s.modeClock + c)) =
          ppuRun ((ppuTransition s).withClock ((ppuTransition s).modeClock + c)) := by
        rw [ppuRun_reached (s := s.withClock (s.modeClock + c)) (Nat.le_add_right_of_le reached),
          ppuTransition_withClock on, ppuTransition_modeClock, Nat.sub_add_comm reached]
      rw [before, ppuRun_reached reached]
      exact ih _ (by rw [ppuTransition_modeClock]; omega) (by rw [ppuTransition_lcdc, on]) rfl
    · rw [ppuRun_below (Nat.not_le.mp reached)]

theorem ppuStep_add (c1 c2 : Nat) (s : State) : ppuStep (c1 + c2) s = ppuStep c2 (ppuStep c1 s) := by
  cases h : s.lcdc.getLsbD 7 with
  | false => rw [ppuStep_off h, ppuStep_off h, ppuStep_off h]
  | true =>
    have on : (ppuStep c1 s).lcdc.getLsbD 7 = true := by rw [ppuStep_lcdc, h]
    rw [ppuStep_on on, ppuStep_on h, ppuStep_on h, ← Nat.add_assoc]
    exact ppuRun_later c2 (s := s.withClock (s.modeClock + c1)) h

/-! ## One transition in a call -/

section Call

variable {s t : State} {c : Nat} (on : s.lcdc.getLsbD 7 = true)
include on

theorem ppuStep_below (h : s.modeClock + c < modeLimit s.ppuMode) :
    ppuStep c s = { s with modeClock := s.modeClock + c } := by
  rw [ppuStep_on on, ppuRun_below (s := s.withClock _) h]
  rfl

/-- A call that ends the mode and not the next one makes the one transition. -/
theorem ppuStep_once {m next : PpuMode} (hm : s.ppuMode = m) (ht : ppuTransition (s.withClock (s.modeClock + c)) = t)
    (hnext : t.ppuMode = next) (reached : modeLimit m ≤ s.modeClock + c)
    (once : s.modeClock + c < modeLimit m + modeLimit next) : ppuStep c s = t := by
  subst hm hnext
  have clock : t.modeClock = s.modeClock + c - modeLimit s.ppuMode := ht ▸ ppuTransition_modeClock _
  rw [ppuStep_on on, ppuRun_reached (s := s.withClock (s.modeClock + c)) reached, ht, ppuRun_below (by omega)]

end Call

theorem modeLimit_of_row {m : PpuMode} {limit : Nat}
    (h : (m, limit) ∈ [(PpuMode.oamScan, 80), (.drawLine, 172), (.hblank, 204), (.vblank, 456)]) : modeLimit m = limit := by
  simp only [List.mem_cons, Prod.mk.injEq, List.not_mem_nil, or_false] at h
  obtain ⟨rfl, rfl⟩ | ⟨rfl, rfl⟩ | ⟨rfl, rfl⟩ | ⟨rfl, rfl⟩ := h <;> rfl

theorem memWrite_stat (s : State) (v : Byte) : memWrite s 0xFF41#16 v = { s with statEn := v.extractLsb' 3 4 } :=
  memWrite_ioAddr s .stat v

/-- Settles O56: each transition as a whole state, made once in a call that ends its mode and not the next. -/
theorem modeTransitions : Obligations.ModeTransitions := by
  refine ⟨fun s c on => ⟨fun limit row below => ?below, fun hm => ?oamScan, fun hm => ?drawLine, fun hm hl => ?hblank,
    fun hm hl => ?hblankLast, fun hm hl => ?vblank, fun hm hl => ?vblankLast⟩, fun s v => ?statWrite⟩
  case below => exact ppuStep_below on (by rwa [modeLimit_of_row row])
  case statWrite => rw [memWrite_stat]
  all_goals have on' : (s.withClock (s.modeClock + c)).lcdc.getLsbD 7 = true := on
  case oamScan => exact ppuStep_once on hm (ppuTransition_oamScan hm) rfl
  case drawLine => exact ppuStep_once on hm (ppuTransition_drawLine hm) rfl
  case hblank => exact ppuStep_once on hm (ppuTransition_hblank on' hm hl) rfl
  case hblankLast => exact ppuStep_once on hm (ppuTransition_hblank_last on' hm hl) rfl
  case vblank => exact ppuStep_once on hm (ppuTransition_vblank on' hm hl) hm
  case vblankLast => exact ppuStep_once on hm (ppuTransition_vblank_last on' hm (congrArg BitVec.toNat hl).ge) rfl

/-- Settles O55: the timer's accumulators and the mode's clock carry what a call leaves over to the next. -/
theorem devicesTakeCyclesInAnySplit : Obligations.DevicesTakeCyclesInAnySplit :=
  fun s c1 c2 => ⟨timerTick_add c1 c2 s, ppuStep_add c1 c2 s⟩

end Sys2Proof.Machine
end

section
/-! PROOFS. The frame: where the pixel processor stands after any number of cycles (60_exceptions.md R462, R466). -/

namespace Sys2Proof.Machine

/-- With the LCD on, the pixel processor stands at a cycle of a mode of a line, and IF holds a VBlank request or not. -/
structure StandsAt (m : PpuMode) (clock line : Nat) (irq : Bool) (s : State) : Prop where
  on : s.lcdc.getLsbD 7 = true
  mode : s.ppuMode = m
  clock : s.modeClock = clock
  line : s.ly.toNat = line
  irq : s.ifReg.getLsbD 0 = irq

/-! ## From mode to mode -/

theorem vblankBit_lcdStat (edge : Prop) [Decidable edge] (x : BitVec 5) :
    (if edge then x ||| 0x02#5 else x).getLsbD 0 = x.getLsbD 0 := by
  split
  · rw [BitVec.getLsbD_or]
    exact Bool.or_false _
  · rfl

theorem vblankBit_entry (edge : Prop) [Decidable edge] (x : BitVec 5) :
    (if edge then x ||| 0x03#5 else x ||| 0x01#5).getLsbD 0 = true := by
  split <;> rw [BitVec.getLsbD_or] <;> exact Bool.or_true _

theorem toNat_next {w : Byte} {n : Nat} (hw : w.toNat = n) (hn : n < 255) : (w + 1).toNat = n + 1 := by
  rw [BitVec.toNat_add, hw]
  exact Nat.mod_eq_of_lt (show n + 1 < 256 by omega)

section Modes

variable {m : PpuMode} {k line : Nat} {irq : Bool} {s : State}

theorem StandsAt.within (h : StandsAt m k line irq s) {c : Nat} (hc : k + c < modeLimit m) :
    StandsAt m (k + c) line irq (ppuStep c s) := by
  obtain ⟨on, rfl, rfl, hl, hi⟩ := h
  rw [ppuStep_below on hc]
  exact ⟨on, rfl, rfl, hl, hi⟩

/-- A call as long as the mode makes the transition. -/
theorem StandsAt.ppuStep_eq (h : StandsAt m 0 line irq s) : ppuStep (modeLimit m) s = (ppuTransition s).withClock 0 := by
  obtain ⟨on, rfl, clock, -, -⟩ := h
  have full : s.modeClock + modeLimit s.ppuMode = modeLimit s.ppuMode := by rw [clock, Nat.zero_add]
  have ended : ppuTransition (s.withClock (s.modeClock + modeLimit s.ppuMode)) = (ppuTransition s).withClock 0 := by
    rw [ppuTransition_withClock on, full, Nat.sub_self]
  refine ppuStep_once on rfl ended rfl full.ge ?_
  have := modeLimit_ge ((ppuTransition s).withClock 0).ppuMode
  omega

theorem StandsAt.scanEnds (h : StandsAt .oamScan 0 line irq s) : StandsAt .drawLine 0 line irq (ppuStep 80 s) := by
  rw [show ppuStep 80 s = _ from h.ppuStep_eq, ppuTransition_oamScan h.mode]
  exact ⟨h.on, rfl, rfl, h.line, h.irq⟩

theorem StandsAt.drawEnds (h : StandsAt .drawLine 0 line irq s) : StandsAt .hblank 0 line irq (ppuStep 172 s) := by
  rw [show ppuStep 172 s = _ from h.ppuStep_eq, ppuTransition_drawLine h.mode]
  exact ⟨h.on, rfl, rfl, h.line, (vblankBit_lcdStat _ _).trans h.irq⟩

theorem StandsAt.hblankEnds (h : StandsAt .hblank 0 line irq s) (hl : line < 143) :
    StandsAt .oamScan 0 (line + 1) irq (ppuStep 204 s) := by
  have notLast : s.ly ≠ 143#8 := fun last => by
    have := h.line
    rw [last] at this
    exact hl.ne this.symm
  rw [show ppuStep 204 s = _ from h.ppuStep_eq, ppuTransition_hblank h.on h.mode notLast]
  exact ⟨h.on, rfl, rfl, toNat_next h.line (by omega), (vblankBit_lcdStat _ _).trans h.irq⟩

theorem StandsAt.hblankEnds_last (h : StandsAt .hblank 0 143 irq s) : StandsAt .vblank 0 144 true (ppuStep 204 s) := by
  rw [show ppuStep 204 s = _ from h.ppuStep_eq, ppuTransition_hblank_last h.on h.mode (BitVec.eq_of_toNat_eq h.line)]
  exact ⟨h.on, rfl, rfl, rfl, vblankBit_entry _ _⟩

theorem StandsAt.vblankEnds (h : StandsAt .vblank 0 line irq s) (hl : line < 153) :
    StandsAt .vblank 0 (line + 1) irq (ppuStep 456 s) := by
  rw [show ppuStep 456 s = _ from h.ppuStep_eq, ppuTransition_vblank h.on h.mode (h.line.trans_lt hl)]
  exact ⟨h.on, h.mode, rfl, toNat_next h.line (by omega), (vblankBit_lcdStat _ _).trans h.irq⟩

theorem StandsAt.vblankEnds_last (h : StandsAt .vblank 0 153 irq s) : StandsAt .oamScan 0 0 irq (ppuStep 456 s) := by
  rw [show ppuStep 456 s = _ from h.ppuStep_eq, ppuTransition_vblank_last h.on h.mode h.line.ge]
  exact ⟨h.on, rfl, rfl, rfl, (vblankBit_lcdStat _ _).trans h.irq⟩

end Modes

/-! ## From line to line -/

/-- The mode at cycle r of a line (R462). -/
def beamMode (line r : Nat) : PpuMode :=
  if 144 ≤ line then .vblank else if r < 80 then .oamScan else if r < 252 then .drawLine else .hblank

/-- The cycles since that mode began. -/
def beamClock (line r : Nat) : Nat := if 144 ≤ line then r else if r < 80 then r else if r < 252 then r - 80 else r - 252

section Lines

variable {line : Nat} {irq : Bool} {s : State}

theorem StandsAt.alongLine (h : StandsAt (beamMode line 0) 0 line irq s) {r : Nat} (hr : r < 456) :
    StandsAt (beamMode line r) (beamClock line r) line irq (ppuStep r s) := by
  unfold beamMode beamClock at *
  by_cases vblank : 144 ≤ line
  · simp only [vblank, if_true] at h ⊢
    simpa using h.within (c := r) (by simpa [modeLimit] using hr)
  · simp only [vblank, if_false, Nat.zero_lt_succ, if_true] at h ⊢
    split
    case isTrue scan => simpa using h.within (c := r) (by simpa [modeLimit] using scan)
    case isFalse scan =>
      obtain ⟨r, rfl⟩ := Nat.exists_eq_add_of_le (Nat.not_lt.mp scan)
      rw [ppuStep_add]
      split
      case isTrue draw => simpa using h.scanEnds.within (c := r) (by simp [modeLimit]; omega)
      case isFalse draw =>
        obtain ⟨r, rfl⟩ := Nat.exists_eq_add_of_le (show 172 ≤ r by omega)
        rw [ppuStep_add, show 80 + (172 + r) - 252 = 0 + r by omega]
        exact h.scanEnds.drawEnds.within (by simp [modeLimit]; omega)

theorem ppuStep_line (s : State) : ppuStep 456 s = ppuStep 204 (ppuStep 172 (ppuStep 80 s)) := by
  rw [← ppuStep_add, ← ppuStep_add]

theorem StandsAt.nextLine (h : StandsAt (beamMode line 0) 0 line irq s) (hl : line < 153) :
    StandsAt (beamMode (line + 1) 0) 0 (line + 1) (irq || decide (line = 143)) (ppuStep 456 s) := by
  obtain below | rfl | vblank := Nat.lt_trichotomy line 143
  · have scan : StandsAt .oamScan 0 line irq s := by simpa [beamMode, show ¬ 144 ≤ line by omega] using h
    rw [ppuStep_line]
    simpa [beamMode, show ¬ 143 ≤ line by omega, below.ne] using scan.scanEnds.drawEnds.hblankEnds below
  · have scan : StandsAt .oamScan 0 143 irq s := h
    rw [ppuStep_line]
    simpa [beamMode] using scan.scanEnds.drawEnds.hblankEnds_last
  · have vblank' : StandsAt .vblank 0 line irq s := by simpa [beamMode, show 144 ≤ line by omega] using h
    simpa [beamMode, vblank.le, vblank.ne'] using vblank'.vblankEnds hl

/-- From the start of a line to the start of a later line of the same frame. -/
theorem StandsAt.laterLine (h : StandsAt (beamMode line 0) 0 line irq s) {k : Nat} (hk : line + k < 154) :
    StandsAt (beamMode (line + k) 0) 0 (line + k) (irq || decide (line < 144 ∧ 144 ≤ line + k)) (ppuStep (456 * k) s) := by
  induction k with
  | zero =>
    have := modeLimit_ge (beamMode line 0)
    simpa [show ¬ (line < 144 ∧ 144 ≤ line) by omega] using h.within (c := 0) (by omega)
  | succ k ih =>
    have requests : (decide (line < 144 ∧ 144 ≤ line + k) || decide (line + k = 143)) =
        decide (line < 144 ∧ 144 ≤ line + (k + 1)) := by
      rw [← Bool.decide_or]
      exact decide_eq_decide.mpr (by omega)
    rw [Nat.mul_succ, ppuStep_add, ← requests, ← Bool.or_assoc]
    exact (ih (by omega)).nextLine (by omega)

end Lines

/-! ## Any split -/

theorem foldl_ppuStep (calls : List Nat) (c : Nat) (s : State) :
    calls.foldl (fun u c => ppuStep c u) (ppuStep c s) = ppuStep (c + calls.sum) s := by
  induction calls generalizing c with
  | nil => rfl
  | cons c' calls ih => rw [List.foldl_cons, ← ppuStep_add, ih, List.sum_cons, Nat.add_assoc]

theorem calls_eq_ppuStep {s : State} (clock : s.modeClock = 0) (calls : List Nat) :
    calls.foldl (fun u c => ppuStep c u) s = ppuStep calls.sum s := by
  have := modeLimit_ge s.ppuMode
  have run := foldl_ppuStep calls 0 s
  rwa [ppuStep_zero (by omega), Nat.zero_add] at run

section Start

variable {s : State} (on : s.lcdc.getLsbD 7 = true) (clock : s.modeClock = 0)
include on clock

theorem frameStart (mode : s.ppuMode = .oamScan) (line : s.ly = 0#8) :
    StandsAt (beamMode 0 0) 0 0 (s.ifReg.getLsbD 0) s := ⟨on, mode, clock, congrArg BitVec.toNat line, rfl⟩

theorem vblankStart (mode : s.ppuMode = .vblank) (line : s.ly = 144#8) :
    StandsAt (beamMode 144 0) 0 144 (s.ifReg.getLsbD 0) s := ⟨on, mode, clock, congrArg BitVec.toNat line, rfl⟩

end Start

/-- The ten lines of VBlank, and the start of the frame after them, make no VBlank request. -/
theorem StandsAt.vblank_quiet {irq : Bool} {s : State} (h : StandsAt (beamMode 144 0) 0 144 irq s) {c : Nat} (hc : c ≤ 4560) :
    (ppuStep c s).ifReg.getLsbD 0 = irq := by
  have line {k : Nat} (hk : k < 10) : StandsAt (beamMode (144 + k) 0) 0 (144 + k) irq (ppuStep (456 * k) s) := by
    simpa using h.laterLine (k := k) (by omega)
  obtain rfl | below := hc.eq_or_lt
  · rw [show 4560 = 456 * 9 + 456 by rfl, ppuStep_add]
    exact (line (k := 9) (by decide)).vblankEnds_last.irq
  · rw [← Nat.div_add_mod c 456, ppuStep_add]
    exact ((line (by omega)).alongLine (Nat.mod_lt c (by decide))).irq

/-- Settles O57: any split is one call of the sum, and that call is whole lines and the cycles of the last. -/
theorem frameLaw : Obligations.FrameLaw := by
  refine ⟨?position, ?period, ?vblank, fun s c off => ppuStep_off off c⟩
  case position =>
    rintro s _ calls line r on mode clock ly rfl sum hr hl
    rw [calls_eq_ppuStep clock, sum, ppuStep_add]
    have start := (frameStart on clock mode ly).laterLine (k := line) (by omega)
    simp only [Nat.zero_add, Nat.zero_lt_succ, true_and] at start
    have stands := start.alongLine hr
    exact ⟨stands.line, stands.mode, stands.clock, stands.irq⟩
  case period =>
    rintro s _ calls on mode clock ly rfl sum
    rw [calls_eq_ppuStep clock, sum, show 70224 = 456 * 153 + 456 by rfl, ppuStep_add]
    have stands := ((frameStart on clock mode ly).laterLine (k := 153) (by decide)).vblankEnds_last
    exact ⟨stands.mode, stands.clock, BitVec.eq_of_toNat_eq stands.line⟩
  case vblank =>
    intro s calls on mode clock ly sum
    rw [calls_eq_ppuStep clock]
    exact (vblankStart on clock mode ly).vblank_quiet sum

end Sys2Proof.Machine
end

section
/-! PROOFS. The scanline renderer (60_exceptions.md R480 to R485). -/

namespace Sys2Proof.Machine

open Sys2Proof.Rows

/-! ## The frame -/

theorem hostPixel_renderLine_same (s : State) (y : Fin 144) (x : Fin 160) :
    hostPixel (renderLine y.val s) y x = pixelShade s y.val x.val := by
  simp [hostPixel, lineShades]

theorem hostPixel_renderLine_other (s : State) {y y' : Fin 144} (h : y' ≠ y) (x : Fin 160) :
    hostPixel (renderLine y.val s) y' x = hostPixel s y' x := by
  have : y.val ≠ y'.val := fun e => h (Fin.ext e.symm)
  simp [hostPixel, this]

/-! ## The background -/

theorem tilePixel_toNat (s : State) (t row x : Nat) : (tilePixel s t row x).toNat =
    2 * ((s.vram.read (16 * t + 2 * row + 1)).getLsbD (7 - x)).toNat +
      ((s.vram.read (16 * t + 2 * row)).getLsbD (7 - x)).toNat := by
  have pixel (high low : Bool) : (BitVec.ofBool high ++ BitVec.ofBool low).toNat = 2 * high.toNat + low.toNat := by
    cases high <;> cases low <;> rfl
  exact pixel _ _

theorem shade_eq (palette : Byte) (ci : BitVec 2) : shade palette ci = BitVec.ofNat 2 (palette.toNat / 4 ^ ci.toNat) := by
  rw [shade, field_eq_ofNat, Nat.pow_mul]

theorem bgTile_eq (s : State) (idx : Byte) : bgTile s idx =
    if s.lcdc.getLsbD 4 = true ∨ 128 ≤ idx.toNat then idx.toNat else idx.toNat + 256 := by
  unfold bgTile
  by_cases unsigned : s.lcdc.getLsbD 4 = true <;> by_cases low : idx.toNat < 128 <;>
    simp [unsigned, low, Nat.not_le.mpr, Nat.not_lt.mp]

theorem bgTile_lt (s : State) (idx : Byte) : bgTile s idx < 384 := by
  have := idx.isLt
  rw [bgTile_eq]
  split <;> omega

theorem bgIndex_on {s : State} (on : s.lcdc.getLsbD 0 = true) (ly x : Nat) : bgIndex s ly x =
    tilePixel s (bgTile s (s.vram.read (bgMapBase s + 32 * ((s.scy.toNat + ly) % 256 / 8) + (s.scx.toNat + x) % 256 / 8)))
      ((s.scy.toNat + ly) % 256 % 8) ((s.scx.toNat + x) % 256 % 8) := by
  rw [bgIndex, if_pos on]

theorem bgShade_on {s : State} (on : s.lcdc.getLsbD 0 = true) (ly x : Nat) :
    bgShade s ly x = BitVec.ofNat 2 (s.bgp.toNat / 4 ^ (bgIndex s ly x).toNat) := by
  rw [bgShade, if_pos on, shade_eq]

theorem background_off {s : State} (off : s.lcdc.getLsbD 0 = false) (ly x : Nat) :
    bgIndex s ly x = 0#2 ∧ bgShade s ly x = 0#2 := by
  rw [bgIndex, bgShade, off]
  exact ⟨rfl, rfl⟩

/-! ## The order of the sprites -/

/-- R485's order of the OAM indices of sprites: by x, then by the index. -/
def comesFirst (s : State) (i j : Nat) : Prop :=
  (spriteAt s i).x.toNat < (spriteAt s j).x.toNat ∨ ((spriteAt s i).x.toNat = (spriteAt s j).x.toNat ∧ i ≤ j)

theorem comesFirst_trans (s : State) : IsTrans Nat (comesFirst s) where
  trans _ _ _ := by unfold comesFirst; omega

theorem comesFirst_total (s : State) : Std.Total (comesFirst s) where
  total _ _ := by unfold comesFirst; omega

theorem not_comesFirst_of_before {s : State} {i j : Nat} (h : (spriteAt s j).x.toNat < (spriteAt s i).x.toNat ∨
    ((spriteAt s j).x.toNat = (spriteAt s i).x.toNat ∧ j < i)) : ¬ comesFirst s i j := by
  unfold comesFirst
  omega

/-- An insertion by x alone, of a sprite whose index is below those of the list, is one by R485's order. -/
theorem insertByX_map (s : State) [DecidableRel (comesFirst s)] (i : Nat) (l : List Nat) (h : ∀ j ∈ l, i < j) :
    insertByX (spriteAt s i) (l.map (spriteAt s)) = (l.orderedInsert (comesFirst s) i).map (spriteAt s) := by
  induction l with
  | nil => rfl
  | cons j l ih =>
    obtain ⟨hj, hl⟩ := List.forall_mem_cons.mp h
    have byX : (spriteAt s i).x.toNat ≤ (spriteAt s j).x.toNat ↔ comesFirst s i j := by unfold comesFirst; omega
    rw [List.map_cons, insertByX, List.orderedInsert_cons, ih hl]
    simp only [byX]
    split <;> rfl

/-- Sprites in OAM order are sorted by R485's order. -/
theorem orderByX_map (s : State) [DecidableRel (comesFirst s)] (l : List Nat) (h : l.Pairwise (· < ·)) :
    orderByX (l.map (spriteAt s)) = (l.insertionSort (comesFirst s)).map (spriteAt s) := by
  induction l with
  | nil => rfl
  | cons i l ih =>
    obtain ⟨hi, hl⟩ := List.pairwise_cons.mp h
    rw [List.insertionSort_cons, ← insertByX_map s i _ fun j hj => hi j (List.mem_insertionSort _ |>.mp hj), ← ih hl]
    rfl

/-! ## Selection -/

theorem lineSprites_increasing (s : State) (ly : Nat) : (lineSprites s ly).Pairwise (· < ·) :=
  (List.pairwise_lt_range.sublist List.filter_sublist).sublist (List.take_sublist _ _)

theorem selectedSprites_eq (s : State) (ly : Nat) :
    selectedSprites s ly = if s.lcdc.getLsbD 1 = true then (lineSprites s ly).map (spriteAt s) else [] := by
  rw [selectedSprites, List.filter_map, lineSprites, List.map_take]
  rfl

theorem selectedSprites_off {s : State} (off : s.lcdc.getLsbD 1 = false) (ly : Nat) : selectedSprites s ly = [] := by
  rw [selectedSprites_eq, off, if_neg Bool.false_ne_true]

/-! ## The winner -/

theorem shows_iff (s : State) (ly x i : Nat) : shows s ly x i ↔
    (coversColumn x (spriteAt s i) && (spriteIndex s ly x (spriteAt s i) != 0#2)) = true := by
  simp [shows, coversColumn, and_assoc]

theorem winner_off {s : State} (off : s.lcdc.getLsbD 1 = false) (ly x : Nat) : winner s ly x = none := by
  rw [winner, selectedSprites_off off]
  rfl

/-- With sprites on, the winner is the first in R485's order that shows. -/
theorem winner_on {s : State} (on : s.lcdc.getLsbD 1 = true) (ly x : Nat) [DecidableRel (comesFirst s)]
    [DecidablePred (shows s ly x)] : winner s ly x =
    (((lineSprites s ly).insertionSort (comesFirst s)).find? fun i => decide (shows s ly x i)).map (spriteAt s) := by
  rw [winner, selectedSprites_eq, if_pos on, orderByX_map s _ (lineSprites_increasing s ly), List.find?_map]
  congr 2
  funext i
  simp only [Function.comp, shows_iff, Bool.decide_eq_true]

theorem winner_eq_none {s : State} (on : s.lcdc.getLsbD 1 = true) {ly x : Nat} (h : winner s ly x = none) :
    ∀ j ∈ lineSprites s ly, ¬ shows s ly x j := by
  classical
  rw [winner_on on, Option.map_eq_none_iff, List.find?_eq_none] at h
  exact fun j hj => by simpa using h j ((List.mem_insertionSort _).mpr hj)

theorem winner_eq_some {s : State} (on : s.lcdc.getLsbD 1 = true) {ly x : Nat} {sp : Sprite} (h : winner s ly x = some sp) :
    ∃ i ∈ lineSprites s ly, sp = spriteAt s i ∧ shows s ly x i ∧
      ∀ j ∈ lineSprites s ly, ((spriteAt s j).x.toNat < sp.x.toNat ∨ ((spriteAt s j).x = sp.x ∧ j < i)) →
        ¬ shows s ly x j := by
  classical
  have := comesFirst_trans s
  have := comesFirst_total s
  have sorted := List.pairwise_insertionSort (comesFirst s) (lineSprites s ly)
  have mem {j : Nat} := List.mem_insertionSort (comesFirst s) (l := lineSprites s ly) (x := j)
  rw [winner_on on, Option.map_eq_some_iff] at h
  obtain ⟨i, found, rfl⟩ := h
  obtain ⟨showsI, before, after, split, hidden⟩ := List.find?_eq_some_iff_append.mp found
  rw [split] at sorted mem
  refine ⟨i, mem.mp (by simp), rfl, by simpa using showsI, fun j hj first => ?_⟩
  have notLater : ¬ comesFirst s i j := not_comesFirst_of_before (first.imp id fun e => ⟨congrArg BitVec.toNat e.1, e.2⟩)
  obtain hj | hj := List.mem_append.mp (mem.mpr hj)
  · simpa using hidden j hj
  · obtain rfl | hj := List.mem_cons.mp hj
    · exact absurd (Or.inr ⟨rfl, le_rfl⟩) notLater
    · exact absurd (List.rel_of_pairwise_cons (List.pairwise_append.mp sorted).2.1 hj) notLater

theorem pixelShade_none {s : State} {ly x : Nat} (h : winner s ly x = none) : pixelShade s ly x = bgShade s ly x := by
  rw [pixelShade, h]

theorem pixelShade_some {s : State} {ly x : Nat} {sp : Sprite} (h : winner s ly x = some sp) : pixelShade s ly x =
    if sp.attr.getLsbD 7 = true ∧ bgIndex s ly x ≠ 0#2 then bgShade s ly x
    else shade (if sp.attr.getLsbD 4 = true then s.obp1 else s.obp0) (spriteIndex s ly x sp) := by
  rw [pixelShade, h]
  simp [spritePalette]

/-! ## The pixels of a sprite -/

theorem evenTile_toNat (tile : Byte) : (tile &&& 0xFE#8).toNat = tile.toNat / 2 * 2 := by
  revert tile
  exact byte_forall (by decide)

theorem spriteIndex_eq (s : State) (ly x : Nat) (sp : Sprite) {h r c tno : Nat}
    (hh : h = if s.lcdc.getLsbD 2 = true then 16 else 8)
    (hr : r = if sp.attr.getLsbD 6 = true then h - 1 - (ly + 16 - sp.y.toNat) else ly + 16 - sp.y.toNat)
    (hc : c = if sp.attr.getLsbD 5 = true then 7 - (x + 8 - sp.x.toNat) else x + 8 - sp.x.toNat)
    (ht : tno = if h = 16 then sp.tile.toNat / 2 * 2 + r / 8 else sp.tile.toNat) :
    spriteIndex s ly x sp = tilePixel s tno (r % 8) c := by
  subst ht hc hr hh
  rw [← evenTile_toNat]
  rfl

/-- Settles O59: the tile under the scrolled position, and the frame with no sprite to win a pixel. -/
theorem backgroundPixels : Obligations.BackgroundPixels := by
  refine ⟨?on, fun s ly x off => background_off off ly x, fun s y x off => ?rendered,
    fun s y y' x other => hostPixel_renderLine_other s other x, fun _ _ => rfl⟩
  case on =>
    rintro s ly x _ _ _ _ rfl rfl rfl rfl on
    rw [← bgTile_eq]
    refine ⟨bgTile_lt s _, ?_, bgShade_on on ly x⟩
    rw [bgIndex_on on, tilePixel_toNat]
    rfl
  case rendered => rw [hostPixel_renderLine_same, pixelShade_none (winner_off off _ _)]

/-- Settles O60: the selection by OAM index, the winner as the first that shows in the sorted selection, and its pixel. -/
theorem spriteComposition : Obligations.SpriteComposition := by
  refine ⟨hostPixel_renderLine_same, fun s ly x => ⟨selectedSprites_eq s ly, fun sp h r c tno hh hr hc ht => ?pixel,
    fun sp won => ?won, fun none => ⟨pixelShade_none none, fun on => winner_eq_none on none⟩⟩⟩
  case pixel => rw [spriteIndex_eq s ly x sp hh hr hc ht, tilePixel_toNat]
  case won =>
    have on : s.lcdc.getLsbD 1 = true := by
      by_contra off
      rw [winner_off (Bool.eq_false_of_not_eq_true off)] at won
      cases won
    exact ⟨on, winner_eq_some on won, pixelShade_some won⟩

end Sys2Proof.Machine
end

section
/-! PROOFS. Which launches are refused, and that the others give a legal machine (70_reset_and_hazards.md R541, 20_memory.md
R92). -/

namespace Sys2Proof.Machine

/-! ## The three preconditions as numbers -/

theorem romLengthOk_iff (n : Nat) : romLengthOk n = true ↔ n % 0x4000 = 0 ∧ 0x8000 ≤ n := by
  rw [romLengthOk, Bool.and_eq_true, decide_eq_true_iff, decide_eq_true_iff]
  rfl

theorem bootLengthOk_iff (boot : Option (List Byte)) :
    bootLengthOk boot = true ↔ ∀ bytes, boot = some bytes → bytes.length = 256 := by
  cases boot with
  | none => exact iff_of_true rfl nofun
  | some bytes =>
    rw [bootLengthOk, decide_eq_true_iff]
    exact ⟨fun length _ same => Option.some.inj same ▸ length, fun length => length bytes rfl⟩

theorem cartTypeBanked_eq_some_iff (t : Byte) (banked : Bool) :
    cartTypeBanked t = some banked ↔ t.toNat < 4 ∧ (banked = true ↔ t ≠ 0x00#8) := by
  revert t
  cases banked <;> exact byte_forall (by decide)

/-- A type byte has a meaning exactly if it is 0 to 3. -/
theorem exists_cartTypeBanked_iff (t : Byte) : (∃ banked, cartTypeBanked t = some banked) ↔ t.toNat < 4 := by
  simp only [cartTypeBanked_eq_some_iff]
  exact ⟨fun ⟨_, low, _⟩ => low, fun low => ⟨decide (t ≠ 0x00#8), low, decide_eq_true_iff⟩⟩

/-! ## The launch that is not refused -/

/-- The machine of a launch that is not refused. -/
def launchState (p : LaunchParams) (banked : Bool) : State := p.boot.elim (launchCommon p banked) (launchBoot p banked)

theorem launch_eq_ok_iff (p : LaunchParams) (s : State) :
    launch p = .ok s ↔ romLengthOk p.rom.length = true ∧ bootLengthOk p.boot = true ∧
      ∃ banked, cartTypeBanked (p.rom.getD Config.cartTypeOffset 0x00#8) = some banked ∧ launchState p banked = s := by
  unfold launch launchState
  by_cases length : romLengthOk p.rom.length = true
  · rw [if_pos length]
    cases cartTypeBanked (p.rom.getD Config.cartTypeOffset 0x00#8) with
    | none => simp
    | some banked =>
      cases p.boot with
      | none => simp [length, bootLengthOk]
      | some bytes => by_cases size : bytes.length = Config.bootSize <;> simp [length, bootLengthOk, size]
  · simp [length]

/-- A machine comes of a launch exactly if its three checks pass. -/
theorem exists_launch_iff (p : LaunchParams) :
    (∃ s, launch p = .ok s) ↔ romLengthOk p.rom.length = true ∧ bootLengthOk p.boot = true ∧
      (p.rom.getD Config.cartTypeOffset 0x00#8).toNat < 4 := by
  rw [← exists_cartTypeBanked_iff]
  constructor
  · rintro ⟨s, launched⟩
    obtain ⟨length, boot, banked, type, -⟩ := (launch_eq_ok_iff p s).mp launched
    exact ⟨length, boot, banked, type⟩
  · rintro ⟨length, boot, banked, type⟩
    exact ⟨launchState p banked, (launch_eq_ok_iff p _).mpr ⟨length, boot, banked, type, rfl⟩⟩

@[simp] theorem launchState_rom (p : LaunchParams) (banked : Bool) :
    (launchState p banked).rom = Memory.ofBytes p.rom.length p.rom := by
  unfold launchState
  cases p.boot <;> rfl

@[simp] theorem launchState_romSize (p : LaunchParams) (banked : Bool) :
    (launchState p banked).romSize = p.rom.length := by
  unfold launchState
  cases p.boot <;> rfl

@[simp] theorem launchState_cartBanked (p : LaunchParams) (banked : Bool) :
    (launchState p banked).cartBanked = banked := by
  unfold launchState
  cases p.boot <;> rfl

/-- A byte inside a list does not depend on what stands for the bytes past its end. -/
theorem getD_eq_getD_of_lt {vs : List Byte} {k : Nat} (h : k < vs.length) (v w : Byte) : vs.getD k v = vs.getD k w := by
  rw [List.getD_eq_getElem _ _ h, List.getD_eq_getElem _ _ h]

/-! ## It is legal -/

theorem launchCommon_storageLegal {p : LaunchParams} (length : romLengthOk p.rom.length = true) (banked : Bool) :
    StorageLegal (launchCommon p banked) where
  romWf := Memory.wf_ofBytes _ _
  romWithin := Memory.within_ofBytes _ _
  romSizeOk := (romLengthOk_iff _).mp length
  bootLegal := nofun
  vramWf := Memory.wf_ofBytes _ _
  vramWithin := Memory.within_ofBytes _ _
  eramWf := Memory.wf_ofBytes _ _
  eramWithin := Memory.within_ofBytes _ _
  wramWf := Memory.wf_ofBytes _ _
  wramWithin := Memory.within_ofBytes _ _
  oamWf := Memory.wf_ofBytes _ _
  oamWithin := Memory.within_ofBytes _ _
  hramWf := Memory.wf_ofBytes _ _
  hramWithin := Memory.within_ofBytes _ _

/-- The control and device fields that `Legal` constrains are those of the reset state. -/
theorem launchCommon_legal {p : LaunchParams} (length : romLengthOk p.rom.length = true) (banked : Bool) :
    Legal (launchCommon p banked) where
  storage := launchCommon_storageLegal length banked
  control := { reset_controlLegal with }
  device := { reset_deviceLegal with }

/-- A boot ROM adds its overlay and the drawn registers, of which F has its low bits cleared. -/
theorem launchBoot_legal {p : LaunchParams} (length : romLengthOk p.rom.length = true) (banked : Bool) (bytes : List Byte) :
    Legal (launchBoot p banked bytes) where
  storage := { launchCommon_storageLegal length banked with
    bootLegal := fun _ same => Option.some.inj same ▸ ⟨Memory.wf_ofBytes _ _, Memory.within_ofBytes _ _⟩ }
  control := { reset_controlLegal with
    flagsLow := maskFlags_low p.regs.f
    bootPresent := fun _ => rfl
    faultedAt := nofun }
  device := { reset_deviceLegal with }

theorem launchState_legal {p : LaunchParams} (length : romLengthOk p.rom.length = true) (banked : Bool) :
    Legal (launchState p banked) := by
  unfold launchState
  cases p.boot with
  | none => exact launchCommon_legal length banked
  | some bytes => exact launchBoot_legal length banked bytes

/-- Settles O12: the three checks of `launch` as numbers, and the machine of a launch that passes them. -/
theorem launchIsRefusedOrLegal : Obligations.LaunchIsRefusedOrLegal := by
  refine fun p => ⟨?accepted, fun s launched => ?legal⟩
  case accepted =>
    have type_eq (size : 0x8000 ≤ p.rom.length) :
        p.rom.getD Config.cartTypeOffset 0x00#8 = p.rom.getD 0x0147 0xFF#8 :=
      getD_eq_getD_of_lt (lt_of_lt_of_le (by decide) size) _ _
    rw [exists_launch_iff, romLengthOk_iff, bootLengthOk_iff]
    constructor
    · rintro ⟨⟨banks, size⟩, boot, type⟩
      exact ⟨banks, size, type_eq size ▸ type, boot⟩
    · rintro ⟨banks, size, type, boot⟩
      exact ⟨⟨banks, size⟩, boot, (type_eq size).symm ▸ type⟩
  case legal =>
    obtain ⟨length, -, banked, type, rfl⟩ := (launch_eq_ok_iff p s).mp launched
    rw [launchState_rom, launchState_romSize, launchState_cartBanked]
    exact ⟨launchState_legal length banked, rfl, fun _ => read_ofBytes_of_lt _, ((cartTypeBanked_eq_some_iff _ _).mp type).2⟩

end Sys2Proof.Machine
end
